-- ==== Sys2Proof/Word.lean ====
section
/-! DEFINITION. The word types of the Rgboy 6502 core (00_scope.md R5, R6): the byte of the registers and of
memory, and the 16-bit word of PC and of addresses. Helpers that take words apart are in Machine/Bits.lean. -/

namespace Sys2Proof

/-- A byte: A, X, Y, SP, P, one memory cell, one operand byte (R5, R6). -/
abbrev Byte := BitVec 8

/-- A 16-bit value: PC, an address, an operand word (R5, R6). -/
abbrev Word := BitVec 16

end Sys2Proof
end

