-- ==== Sys2Proof/Machine/Bits.lean ====
section
/-! DEFINITION. Byte order, extension and slices: the helpers `v[hi:lo]`, `{a, b}`, `zext_16`, `sext_16` of
00_scope.md R6 and R7, used by the decoder and by the machine. -/

namespace Sys2Proof.Machine

/-- `w[7:0]` (R6). -/
def lowByte (w : Word) : Byte := w.setWidth 8

/-- `w[15:8]` (R6). -/
def highByte (w : Word) : Byte := (w >>> 8).setWidth 8

/-- `{hi, lo}`, that is `hi*256 + lo` (R6, R42). -/
def joinBytes (hi lo : Byte) : Word := hi ++ lo

/-- `zext_16(b)` (R7). -/
def zext16 (b : Byte) : Word := b.setWidth 16

/-- `sext_16(b)`: `b` if `b < 128`, else `b + 0xFF00` (R7). -/
def sext16 (b : Byte) : Word := b.signExtend 16

end Sys2Proof.Machine
end

