-- ==== Sys2Proof/Syntax.lean ====
section
/-! DEFINITION. The instructions: one constructor per row of spec/opcode_table.json, in the table's order
(30_encoding.md R75, R76). A constructor is named after its mnemonic and, where the mnemonic has more than one
format, its format (R71). It carries the operand field of its format as R71 and R73 name it: `imm8`, `zp8`,
`rel8` one byte, `abs16`, `ptr16` one word. Every operand value is legal (R78). -/

namespace Sys2Proof

/-- The 151 rows of the instruction table (R75, R76). -/
inductive Instr where
  /-- 0x00 `BRK`, R221. -/
  | brk
  /-- 0x01 `ORA ($nn,X)`, R154. -/
  | oraIzx (zp8 : Byte)
  /-- 0x05 `ORA $nn`, R154. -/
  | oraZp (zp8 : Byte)
  /-- 0x06 `ASL $nn`, R170. -/
  | aslZp (zp8 : Byte)
  /-- 0x08 `PHP`, R211. -/
  | php
  /-- 0x09 `ORA #$nn`, R154. -/
  | oraImm (imm8 : Byte)
  /-- 0x0A `ASL A`, R170. -/
  | aslAcc
  /-- 0x0D `ORA $nnnn`, R154. -/
  | oraAbs (abs16 : Word)
  /-- 0x0E `ASL $nnnn`, R170. -/
  | aslAbs (abs16 : Word)
  /-- 0x10 `BPL target`, R196. -/
  | bpl (rel8 : Byte)
  /-- 0x11 `ORA ($nn),Y`, R154. -/
  | oraIzy (zp8 : Byte)
  /-- 0x15 `ORA $nn,X`, R154. -/
  | oraZpx (zp8 : Byte)
  /-- 0x16 `ASL $nn,X`, R170. -/
  | aslZpx (zp8 : Byte)
  /-- 0x18 `CLC`, R214. -/
  | clc
  /-- 0x19 `ORA $nnnn,Y`, R154. -/
  | oraAby (abs16 : Word)
  /-- 0x1D `ORA $nnnn,X`, R154. -/
  | oraAbx (abs16 : Word)
  /-- 0x1E `ASL $nnnn,X`, R170. -/
  | aslAbx (abs16 : Word)
  /-- 0x20 `JSR $nnnn`, R201. -/
  | jsr (abs16 : Word)
  /-- 0x21 `AND ($nn,X)`, R152. -/
  | andIzx (zp8 : Byte)
  /-- 0x24 `BIT $nn`, R158. -/
  | bitZp (zp8 : Byte)
  /-- 0x25 `AND $nn`, R152. -/
  | andZp (zp8 : Byte)
  /-- 0x26 `ROL $nn`, R172. -/
  | rolZp (zp8 : Byte)
  /-- 0x28 `PLP`, R213. -/
  | plp
  /-- 0x29 `AND #$nn`, R152. -/
  | andImm (imm8 : Byte)
  /-- 0x2A `ROL A`, R172. -/
  | rolAcc
  /-- 0x2C `BIT $nnnn`, R158. -/
  | bitAbs (abs16 : Word)
  /-- 0x2D `AND $nnnn`, R152. -/
  | andAbs (abs16 : Word)
  /-- 0x2E `ROL $nnnn`, R172. -/
  | rolAbs (abs16 : Word)
  /-- 0x30 `BMI target`, R194. -/
  | bmi (rel8 : Byte)
  /-- 0x31 `AND ($nn),Y`, R152. -/
  | andIzy (zp8 : Byte)
  /-- 0x35 `AND $nn,X`, R152. -/
  | andZpx (zp8 : Byte)
  /-- 0x36 `ROL $nn,X`, R172. -/
  | rolZpx (zp8 : Byte)
  /-- 0x38 `SEC`, R218. -/
  | sec
  /-- 0x39 `AND $nnnn,Y`, R152. -/
  | andAby (abs16 : Word)
  /-- 0x3D `AND $nnnn,X`, R152. -/
  | andAbx (abs16 : Word)
  /-- 0x3E `ROL $nnnn,X`, R172. -/
  | rolAbx (abs16 : Word)
  /-- 0x40 `RTI`, R203. -/
  | rti
  /-- 0x41 `EOR ($nn,X)`, R153. -/
  | eorIzx (zp8 : Byte)
  /-- 0x45 `EOR $nn`, R153. -/
  | eorZp (zp8 : Byte)
  /-- 0x46 `LSR $nn`, R171. -/
  | lsrZp (zp8 : Byte)
  /-- 0x48 `PHA`, R210. -/
  | pha
  /-- 0x49 `EOR #$nn`, R153. -/
  | eorImm (imm8 : Byte)
  /-- 0x4A `LSR A`, R171. -/
  | lsrAcc
  /-- 0x4C `JMP $nnnn`, R199. -/
  | jmpAbs (abs16 : Word)
  /-- 0x4D `EOR $nnnn`, R153. -/
  | eorAbs (abs16 : Word)
  /-- 0x4E `LSR $nnnn`, R171. -/
  | lsrAbs (abs16 : Word)
  /-- 0x50 `BVC target`, R197. -/
  | bvc (rel8 : Byte)
  /-- 0x51 `EOR ($nn),Y`, R153. -/
  | eorIzy (zp8 : Byte)
  /-- 0x55 `EOR $nn,X`, R153. -/
  | eorZpx (zp8 : Byte)
  /-- 0x56 `LSR $nn,X`, R171. -/
  | lsrZpx (zp8 : Byte)
  /-- 0x58 `CLI`, R216. -/
  | cli
  /-- 0x59 `EOR $nnnn,Y`, R153. -/
  | eorAby (abs16 : Word)
  /-- 0x5D `EOR $nnnn,X`, R153. -/
  | eorAbx (abs16 : Word)
  /-- 0x5E `LSR $nnnn,X`, R171. -/
  | lsrAbx (abs16 : Word)
  /-- 0x60 `RTS`, R202. -/
  | rts
  /-- 0x61 `ADC ($nn,X)`, R150. -/
  | adcIzx (zp8 : Byte)
  /-- 0x65 `ADC $nn`, R150. -/
  | adcZp (zp8 : Byte)
  /-- 0x66 `ROR $nn`, R173. -/
  | rorZp (zp8 : Byte)
  /-- 0x68 `PLA`, R212. -/
  | pla
  /-- 0x69 `ADC #$nn`, R150. -/
  | adcImm (imm8 : Byte)
  /-- 0x6A `ROR A`, R173. -/
  | rorAcc
  /-- 0x6C `JMP ($nnnn)`, R200. -/
  | jmpInd (ptr16 : Word)
  /-- 0x6D `ADC $nnnn`, R150. -/
  | adcAbs (abs16 : Word)
  /-- 0x6E `ROR $nnnn`, R173. -/
  | rorAbs (abs16 : Word)
  /-- 0x70 `BVS target`, R198. -/
  | bvs (rel8 : Byte)
  /-- 0x71 `ADC ($nn),Y`, R150. -/
  | adcIzy (zp8 : Byte)
  /-- 0x75 `ADC $nn,X`, R150. -/
  | adcZpx (zp8 : Byte)
  /-- 0x76 `ROR $nn,X`, R173. -/
  | rorZpx (zp8 : Byte)
  /-- 0x78 `SEI`, R220. -/
  | sei
  /-- 0x79 `ADC $nnnn,Y`, R150. -/
  | adcAby (abs16 : Word)
  /-- 0x7D `ADC $nnnn,X`, R150. -/
  | adcAbx (abs16 : Word)
  /-- 0x7E `ROR $nnnn,X`, R173. -/
  | rorAbx (abs16 : Word)
  /-- 0x81 `STA ($nn,X)`, R133. -/
  | staIzx (zp8 : Byte)
  /-- 0x84 `STY $nn`, R135. -/
  | styZp (zp8 : Byte)
  /-- 0x85 `STA $nn`, R133. -/
  | staZp (zp8 : Byte)
  /-- 0x86 `STX $nn`, R134. -/
  | stxZp (zp8 : Byte)
  /-- 0x88 `DEY`, R179. -/
  | dey
  /-- 0x8A `TXA`, R138. -/
  | txa
  /-- 0x8C `STY $nnnn`, R135. -/
  | styAbs (abs16 : Word)
  /-- 0x8D `STA $nnnn`, R133. -/
  | staAbs (abs16 : Word)
  /-- 0x8E `STX $nnnn`, R134. -/
  | stxAbs (abs16 : Word)
  /-- 0x90 `BCC target`, R191. -/
  | bcc (rel8 : Byte)
  /-- 0x91 `STA ($nn),Y`, R133. -/
  | staIzy (zp8 : Byte)
  /-- 0x94 `STY $nn,X`, R135. -/
  | styZpx (zp8 : Byte)
  /-- 0x95 `STA $nn,X`, R133. -/
  | staZpx (zp8 : Byte)
  /-- 0x96 `STX $nn,Y`, R134. -/
  | stxZpy (zp8 : Byte)
  /-- 0x98 `TYA`, R139. -/
  | tya
  /-- 0x99 `STA $nnnn,Y`, R133. -/
  | staAby (abs16 : Word)
  /-- 0x9A `TXS`, R141. -/
  | txs
  /-- 0x9D `STA $nnnn,X`, R133. -/
  | staAbx (abs16 : Word)
  /-- 0xA0 `LDY #$nn`, R132. -/
  | ldyImm (imm8 : Byte)
  /-- 0xA1 `LDA ($nn,X)`, R130. -/
  | ldaIzx (zp8 : Byte)
  /-- 0xA2 `LDX #$nn`, R131. -/
  | ldxImm (imm8 : Byte)
  /-- 0xA4 `LDY $nn`, R132. -/
  | ldyZp (zp8 : Byte)
  /-- 0xA5 `LDA $nn`, R130. -/
  | ldaZp (zp8 : Byte)
  /-- 0xA6 `LDX $nn`, R131. -/
  | ldxZp (zp8 : Byte)
  /-- 0xA8 `TAY`, R137. -/
  | tay
  /-- 0xA9 `LDA #$nn`, R130. -/
  | ldaImm (imm8 : Byte)
  /-- 0xAA `TAX`, R136. -/
  | tax
  /-- 0xAC `LDY $nnnn`, R132. -/
  | ldyAbs (abs16 : Word)
  /-- 0xAD `LDA $nnnn`, R130. -/
  | ldaAbs (abs16 : Word)
  /-- 0xAE `LDX $nnnn`, R131. -/
  | ldxAbs (abs16 : Word)
  /-- 0xB0 `BCS target`, R192. -/
  | bcs (rel8 : Byte)
  /-- 0xB1 `LDA ($nn),Y`, R130. -/
  | ldaIzy (zp8 : Byte)
  /-- 0xB4 `LDY $nn,X`, R132. -/
  | ldyZpx (zp8 : Byte)
  /-- 0xB5 `LDA $nn,X`, R130. -/
  | ldaZpx (zp8 : Byte)
  /-- 0xB6 `LDX $nn,Y`, R131. -/
  | ldxZpy (zp8 : Byte)
  /-- 0xB8 `CLV`, R217. -/
  | clv
  /-- 0xB9 `LDA $nnnn,Y`, R130. -/
  | ldaAby (abs16 : Word)
  /-- 0xBA `TSX`, R140. -/
  | tsx
  /-- 0xBC `LDY $nnnn,X`, R132. -/
  | ldyAbx (abs16 : Word)
  /-- 0xBD `LDA $nnnn,X`, R130. -/
  | ldaAbx (abs16 : Word)
  /-- 0xBE `LDX $nnnn,Y`, R131. -/
  | ldxAby (abs16 : Word)
  /-- 0xC0 `CPY #$nn`, R157. -/
  | cpyImm (imm8 : Byte)
  /-- 0xC1 `CMP ($nn,X)`, R155. -/
  | cmpIzx (zp8 : Byte)
  /-- 0xC4 `CPY $nn`, R157. -/
  | cpyZp (zp8 : Byte)
  /-- 0xC5 `CMP $nn`, R155. -/
  | cmpZp (zp8 : Byte)
  /-- 0xC6 `DEC $nn`, R175. -/
  | decZp (zp8 : Byte)
  /-- 0xC8 `INY`, R177. -/
  | iny
  /-- 0xC9 `CMP #$nn`, R155. -/
  | cmpImm (imm8 : Byte)
  /-- 0xCA `DEX`, R178. -/
  | dex
  /-- 0xCC `CPY $nnnn`, R157. -/
  | cpyAbs (abs16 : Word)
  /-- 0xCD `CMP $nnnn`, R155. -/
  | cmpAbs (abs16 : Word)
  /-- 0xCE `DEC $nnnn`, R175. -/
  | decAbs (abs16 : Word)
  /-- 0xD0 `BNE target`, R195. -/
  | bne (rel8 : Byte)
  /-- 0xD1 `CMP ($nn),Y`, R155. -/
  | cmpIzy (zp8 : Byte)
  /-- 0xD5 `CMP $nn,X`, R155. -/
  | cmpZpx (zp8 : Byte)
  /-- 0xD6 `DEC $nn,X`, R175. -/
  | decZpx (zp8 : Byte)
  /-- 0xD8 `CLD`, R215. -/
  | cld
  /-- 0xD9 `CMP $nnnn,Y`, R155. -/
  | cmpAby (abs16 : Word)
  /-- 0xDD `CMP $nnnn,X`, R155. -/
  | cmpAbx (abs16 : Word)
  /-- 0xDE `DEC $nnnn,X`, R175. -/
  | decAbx (abs16 : Word)
  /-- 0xE0 `CPX #$nn`, R156. -/
  | cpxImm (imm8 : Byte)
  /-- 0xE1 `SBC ($nn,X)`, R151. -/
  | sbcIzx (zp8 : Byte)
  /-- 0xE4 `CPX $nn`, R156. -/
  | cpxZp (zp8 : Byte)
  /-- 0xE5 `SBC $nn`, R151. -/
  | sbcZp (zp8 : Byte)
  /-- 0xE6 `INC $nn`, R174. -/
  | incZp (zp8 : Byte)
  /-- 0xE8 `INX`, R176. -/
  | inx
  /-- 0xE9 `SBC #$nn`, R151. -/
  | sbcImm (imm8 : Byte)
  /-- 0xEA `NOP`, R222. -/
  | nop
  /-- 0xEC `CPX $nnnn`, R156. -/
  | cpxAbs (abs16 : Word)
  /-- 0xED `SBC $nnnn`, R151. -/
  | sbcAbs (abs16 : Word)
  /-- 0xEE `INC $nnnn`, R174. -/
  | incAbs (abs16 : Word)
  /-- 0xF0 `BEQ target`, R193. -/
  | beq (rel8 : Byte)
  /-- 0xF1 `SBC ($nn),Y`, R151. -/
  | sbcIzy (zp8 : Byte)
  /-- 0xF5 `SBC $nn,X`, R151. -/
  | sbcZpx (zp8 : Byte)
  /-- 0xF6 `INC $nn,X`, R174. -/
  | incZpx (zp8 : Byte)
  /-- 0xF8 `SED`, R219. -/
  | sed
  /-- 0xF9 `SBC $nnnn,Y`, R151. -/
  | sbcAby (abs16 : Word)
  /-- 0xFD `SBC $nnnn,X`, R151. -/
  | sbcAbx (abs16 : Word)
  /-- 0xFE `INC $nnnn,X`, R174. -/
  | incAbx (abs16 : Word)
  deriving DecidableEq, Repr

end Sys2Proof
end

