-- ==== Sys2Proof/WellFormed.lean ====
section
/-! DEFINITION. Mnemonics, encoding formats, and the check that an instruction's format is one that 30_encoding.md
R76 gives its mnemonic. Operand fields need no check: every value of every operand byte is legal (R78). -/

namespace Sys2Proof

/-- The thirteen encoding formats (R71). -/
inductive Format where
  | imp | acc | imm | zp | zpx | zpy | abs | abx | aby | izx | izy | rel | ind
  deriving DecidableEq, Repr

/-- The 56 mnemonics (00_scope.md R2). The names end in `M` so that none is a word of Lean. -/
inductive Mnemonic where
  | adcM | andM | aslM | bccM | bcsM | beqM | bitM | bmiM
  | bneM | bplM | brkM | bvcM | bvsM | clcM | cldM | cliM
  | clvM | cmpM | cpxM | cpyM | decM | dexM | deyM | eorM
  | incM | inxM | inyM | jmpM | jsrM | ldaM | ldxM | ldyM
  | lsrM | nopM | oraM | phaM | phpM | plaM | plpM | rolM
  | rorM | rtiM | rtsM | sbcM | secM | sedM | seiM | staM
  | stxM | styM | taxM | tayM | tsxM | txaM | txsM | tyaM
  deriving DecidableEq, Repr

/-- Encoded length in bytes of a format (R71, R91). -/
def Format.length : Format → Nat
  | .imp | .acc => 1
  | .imm | .zp | .zpx | .zpy | .izx | .izy | .rel => 2
  | .abs | .abx | .aby | .ind => 3

/-- The mnemonic of a row of the table (R76). -/
def Instr.mnemonic : Instr → Mnemonic
  | .brk => .brkM
  | .oraIzx _ => .oraM
  | .oraZp _ => .oraM
  | .aslZp _ => .aslM
  | .php => .phpM
  | .oraImm _ => .oraM
  | .aslAcc => .aslM
  | .oraAbs _ => .oraM
  | .aslAbs _ => .aslM
  | .bpl _ => .bplM
  | .oraIzy _ => .oraM
  | .oraZpx _ => .oraM
  | .aslZpx _ => .aslM
  | .clc => .clcM
  | .oraAby _ => .oraM
  | .oraAbx _ => .oraM
  | .aslAbx _ => .aslM
  | .jsr _ => .jsrM
  | .andIzx _ => .andM
  | .bitZp _ => .bitM
  | .andZp _ => .andM
  | .rolZp _ => .rolM
  | .plp => .plpM
  | .andImm _ => .andM
  | .rolAcc => .rolM
  | .bitAbs _ => .bitM
  | .andAbs _ => .andM
  | .rolAbs _ => .rolM
  | .bmi _ => .bmiM
  | .andIzy _ => .andM
  | .andZpx _ => .andM
  | .rolZpx _ => .rolM
  | .sec => .secM
  | .andAby _ => .andM
  | .andAbx _ => .andM
  | .rolAbx _ => .rolM
  | .rti => .rtiM
  | .eorIzx _ => .eorM
  | .eorZp _ => .eorM
  | .lsrZp _ => .lsrM
  | .pha => .phaM
  | .eorImm _ => .eorM
  | .lsrAcc => .lsrM
  | .jmpAbs _ => .jmpM
  | .eorAbs _ => .eorM
  | .lsrAbs _ => .lsrM
  | .bvc _ => .bvcM
  | .eorIzy _ => .eorM
  | .eorZpx _ => .eorM
  | .lsrZpx _ => .lsrM
  | .cli => .cliM
  | .eorAby _ => .eorM
  | .eorAbx _ => .eorM
  | .lsrAbx _ => .lsrM
  | .rts => .rtsM
  | .adcIzx _ => .adcM
  | .adcZp _ => .adcM
  | .rorZp _ => .rorM
  | .pla => .plaM
  | .adcImm _ => .adcM
  | .rorAcc => .rorM
  | .jmpInd _ => .jmpM
  | .adcAbs _ => .adcM
  | .rorAbs _ => .rorM
  | .bvs _ => .bvsM
  | .adcIzy _ => .adcM
  | .adcZpx _ => .adcM
  | .rorZpx _ => .rorM
  | .sei => .seiM
  | .adcAby _ => .adcM
  | .adcAbx _ => .adcM
  | .rorAbx _ => .rorM
  | .staIzx _ => .staM
  | .styZp _ => .styM
  | .staZp _ => .staM
  | .stxZp _ => .stxM
  | .dey => .deyM
  | .txa => .txaM
  | .styAbs _ => .styM
  | .staAbs _ => .staM
  | .stxAbs _ => .stxM
  | .bcc _ => .bccM
  | .staIzy _ => .staM
  | .styZpx _ => .styM
  | .staZpx _ => .staM
  | .stxZpy _ => .stxM
  | .tya => .tyaM
  | .staAby _ => .staM
  | .txs => .txsM
  | .staAbx _ => .staM
  | .ldyImm _ => .ldyM
  | .ldaIzx _ => .ldaM
  | .ldxImm _ => .ldxM
  | .ldyZp _ => .ldyM
  | .ldaZp _ => .ldaM
  | .ldxZp _ => .ldxM
  | .tay => .tayM
  | .ldaImm _ => .ldaM
  | .tax => .taxM
  | .ldyAbs _ => .ldyM
  | .ldaAbs _ => .ldaM
  | .ldxAbs _ => .ldxM
  | .bcs _ => .bcsM
  | .ldaIzy _ => .ldaM
  | .ldyZpx _ => .ldyM
  | .ldaZpx _ => .ldaM
  | .ldxZpy _ => .ldxM
  | .clv => .clvM
  | .ldaAby _ => .ldaM
  | .tsx => .tsxM
  | .ldyAbx _ => .ldyM
  | .ldaAbx _ => .ldaM
  | .ldxAby _ => .ldxM
  | .cpyImm _ => .cpyM
  | .cmpIzx _ => .cmpM
  | .cpyZp _ => .cpyM
  | .cmpZp _ => .cmpM
  | .decZp _ => .decM
  | .iny => .inyM
  | .cmpImm _ => .cmpM
  | .dex => .dexM
  | .cpyAbs _ => .cpyM
  | .cmpAbs _ => .cmpM
  | .decAbs _ => .decM
  | .bne _ => .bneM
  | .cmpIzy _ => .cmpM
  | .cmpZpx _ => .cmpM
  | .decZpx _ => .decM
  | .cld => .cldM
  | .cmpAby _ => .cmpM
  | .cmpAbx _ => .cmpM
  | .decAbx _ => .decM
  | .cpxImm _ => .cpxM
  | .sbcIzx _ => .sbcM
  | .cpxZp _ => .cpxM
  | .sbcZp _ => .sbcM
  | .incZp _ => .incM
  | .inx => .inxM
  | .sbcImm _ => .sbcM
  | .nop => .nopM
  | .cpxAbs _ => .cpxM
  | .sbcAbs _ => .sbcM
  | .incAbs _ => .incM
  | .beq _ => .beqM
  | .sbcIzy _ => .sbcM
  | .sbcZpx _ => .sbcM
  | .incZpx _ => .incM
  | .sed => .sedM
  | .sbcAby _ => .sbcM
  | .sbcAbx _ => .sbcM
  | .incAbx _ => .incM

/-- The encoding format of a row of the table (R76). -/
def Instr.format : Instr → Format
  | .brk => .imp
  | .oraIzx _ => .izx
  | .oraZp _ => .zp
  | .aslZp _ => .zp
  | .php => .imp
  | .oraImm _ => .imm
  | .aslAcc => .acc
  | .oraAbs _ => .abs
  | .aslAbs _ => .abs
  | .bpl _ => .rel
  | .oraIzy _ => .izy
  | .oraZpx _ => .zpx
  | .aslZpx _ => .zpx
  | .clc => .imp
  | .oraAby _ => .aby
  | .oraAbx _ => .abx
  | .aslAbx _ => .abx
  | .jsr _ => .abs
  | .andIzx _ => .izx
  | .bitZp _ => .zp
  | .andZp _ => .zp
  | .rolZp _ => .zp
  | .plp => .imp
  | .andImm _ => .imm
  | .rolAcc => .acc
  | .bitAbs _ => .abs
  | .andAbs _ => .abs
  | .rolAbs _ => .abs
  | .bmi _ => .rel
  | .andIzy _ => .izy
  | .andZpx _ => .zpx
  | .rolZpx _ => .zpx
  | .sec => .imp
  | .andAby _ => .aby
  | .andAbx _ => .abx
  | .rolAbx _ => .abx
  | .rti => .imp
  | .eorIzx _ => .izx
  | .eorZp _ => .zp
  | .lsrZp _ => .zp
  | .pha => .imp
  | .eorImm _ => .imm
  | .lsrAcc => .acc
  | .jmpAbs _ => .abs
  | .eorAbs _ => .abs
  | .lsrAbs _ => .abs
  | .bvc _ => .rel
  | .eorIzy _ => .izy
  | .eorZpx _ => .zpx
  | .lsrZpx _ => .zpx
  | .cli => .imp
  | .eorAby _ => .aby
  | .eorAbx _ => .abx
  | .lsrAbx _ => .abx
  | .rts => .imp
  | .adcIzx _ => .izx
  | .adcZp _ => .zp
  | .rorZp _ => .zp
  | .pla => .imp
  | .adcImm _ => .imm
  | .rorAcc => .acc
  | .jmpInd _ => .ind
  | .adcAbs _ => .abs
  | .rorAbs _ => .abs
  | .bvs _ => .rel
  | .adcIzy _ => .izy
  | .adcZpx _ => .zpx
  | .rorZpx _ => .zpx
  | .sei => .imp
  | .adcAby _ => .aby
  | .adcAbx _ => .abx
  | .rorAbx _ => .abx
  | .staIzx _ => .izx
  | .styZp _ => .zp
  | .staZp _ => .zp
  | .stxZp _ => .zp
  | .dey => .imp
  | .txa => .imp
  | .styAbs _ => .abs
  | .staAbs _ => .abs
  | .stxAbs _ => .abs
  | .bcc _ => .rel
  | .staIzy _ => .izy
  | .styZpx _ => .zpx
  | .staZpx _ => .zpx
  | .stxZpy _ => .zpy
  | .tya => .imp
  | .staAby _ => .aby
  | .txs => .imp
  | .staAbx _ => .abx
  | .ldyImm _ => .imm
  | .ldaIzx _ => .izx
  | .ldxImm _ => .imm
  | .ldyZp _ => .zp
  | .ldaZp _ => .zp
  | .ldxZp _ => .zp
  | .tay => .imp
  | .ldaImm _ => .imm
  | .tax => .imp
  | .ldyAbs _ => .abs
  | .ldaAbs _ => .abs
  | .ldxAbs _ => .abs
  | .bcs _ => .rel
  | .ldaIzy _ => .izy
  | .ldyZpx _ => .zpx
  | .ldaZpx _ => .zpx
  | .ldxZpy _ => .zpy
  | .clv => .imp
  | .ldaAby _ => .aby
  | .tsx => .imp
  | .ldyAbx _ => .abx
  | .ldaAbx _ => .abx
  | .ldxAby _ => .aby
  | .cpyImm _ => .imm
  | .cmpIzx _ => .izx
  | .cpyZp _ => .zp
  | .cmpZp _ => .zp
  | .decZp _ => .zp
  | .iny => .imp
  | .cmpImm _ => .imm
  | .dex => .imp
  | .cpyAbs _ => .abs
  | .cmpAbs _ => .abs
  | .decAbs _ => .abs
  | .bne _ => .rel
  | .cmpIzy _ => .izy
  | .cmpZpx _ => .zpx
  | .decZpx _ => .zpx
  | .cld => .imp
  | .cmpAby _ => .aby
  | .cmpAbx _ => .abx
  | .decAbx _ => .abx
  | .cpxImm _ => .imm
  | .sbcIzx _ => .izx
  | .cpxZp _ => .zp
  | .sbcZp _ => .zp
  | .incZp _ => .zp
  | .inx => .imp
  | .sbcImm _ => .imm
  | .nop => .imp
  | .cpxAbs _ => .abs
  | .sbcAbs _ => .abs
  | .incAbs _ => .abs
  | .beq _ => .rel
  | .sbcIzy _ => .izy
  | .sbcZpx _ => .zpx
  | .incZpx _ => .zpx
  | .sed => .imp
  | .sbcAby _ => .aby
  | .sbcAbx _ => .abx
  | .incAbx _ => .abx

/-- The formats of each mnemonic, from the list of R76. -/
def Mnemonic.formats : Mnemonic → List Format
  | .adcM => [.imm, .zp, .zpx, .abs, .abx, .aby, .izx, .izy]
  | .andM => [.imm, .zp, .zpx, .abs, .abx, .aby, .izx, .izy]
  | .aslM => [.acc, .zp, .zpx, .abs, .abx]
  | .bccM => [.rel]
  | .bcsM => [.rel]
  | .beqM => [.rel]
  | .bitM => [.zp, .abs]
  | .bmiM => [.rel]
  | .bneM => [.rel]
  | .bplM => [.rel]
  | .brkM => [.imp]
  | .bvcM => [.rel]
  | .bvsM => [.rel]
  | .clcM => [.imp]
  | .cldM => [.imp]
  | .cliM => [.imp]
  | .clvM => [.imp]
  | .cmpM => [.imm, .zp, .zpx, .abs, .abx, .aby, .izx, .izy]
  | .cpxM => [.imm, .zp, .abs]
  | .cpyM => [.imm, .zp, .abs]
  | .decM => [.zp, .zpx, .abs, .abx]
  | .dexM => [.imp]
  | .deyM => [.imp]
  | .eorM => [.imm, .zp, .zpx, .abs, .abx, .aby, .izx, .izy]
  | .incM => [.zp, .zpx, .abs, .abx]
  | .inxM => [.imp]
  | .inyM => [.imp]
  | .jmpM => [.abs, .ind]
  | .jsrM => [.abs]
  | .ldaM => [.imm, .zp, .zpx, .abs, .abx, .aby, .izx, .izy]
  | .ldxM => [.imm, .zp, .zpy, .abs, .aby]
  | .ldyM => [.imm, .zp, .zpx, .abs, .abx]
  | .lsrM => [.acc, .zp, .zpx, .abs, .abx]
  | .nopM => [.imp]
  | .oraM => [.imm, .zp, .zpx, .abs, .abx, .aby, .izx, .izy]
  | .phaM => [.imp]
  | .phpM => [.imp]
  | .plaM => [.imp]
  | .plpM => [.imp]
  | .rolM => [.acc, .zp, .zpx, .abs, .abx]
  | .rorM => [.acc, .zp, .zpx, .abs, .abx]
  | .rtiM => [.imp]
  | .rtsM => [.imp]
  | .sbcM => [.imm, .zp, .zpx, .abs, .abx, .aby, .izx, .izy]
  | .secM => [.imp]
  | .sedM => [.imp]
  | .seiM => [.imp]
  | .staM => [.zp, .zpx, .abs, .abx, .aby, .izx, .izy]
  | .stxM => [.zp, .zpy, .abs]
  | .styM => [.zp, .zpx, .abs]
  | .taxM => [.imp]
  | .tayM => [.imp]
  | .tsxM => [.imp]
  | .txaM => [.imp]
  | .txsM => [.imp]
  | .tyaM => [.imp]

/-- A mnemonic may be encoded in a format exactly when R76 lists the pair. -/
def legalPair (m : Mnemonic) (f : Format) : Bool := m.formats.contains f

/-- An instruction is well formed when R76 lists its mnemonic with its format. -/
def Instr.wf (i : Instr) : Bool := legalPair i.mnemonic i.format

/-- The encoded length of an instruction (R70). -/
def Instr.length (i : Instr) : Nat := i.format.length

end Sys2Proof
end

