-- ==== Sys2Proof/Decode.lean ====
section
/-! DEFINITION. The decoder and the encoder (30_encoding.md R70 to R77). The table is the 16 by 16 grid of R76,
one list per high nibble of the opcode byte; a byte that no list holds is illegal (R77) and is refused by name. -/

namespace Sys2Proof

/-- What an entry of the table makes of the bytes after the opcode byte (R71, R73). -/
inductive Entry where
  /-- No operand bytes (IMP, ACC). -/
  | plain (i : Instr)
  /-- One operand byte (IMM, ZP, ZPX, ZPY, IZX, IZY, REL). -/
  | byte (f : Byte → Instr)
  /-- An operand word, low byte first (ABS, ABX, ABY, IND). -/
  | word (f : Word → Instr)

/-- Why bytes are not decoded. -/
inductive DecodeError where
  /-- The opcode byte has no table entry (R77). -/
  | illegalOpcode (opcode : Byte)
  /-- Fewer bytes were given than the instruction has (a list of three or more bytes is never truncated). -/
  | truncated
  deriving DecidableEq, Repr

/-- The entries of one row of the grid of R76, by the high nibble of the opcode byte. -/
def tableRow : Nat → List (Byte × Entry)
  | 0x0 => [
      (0x00, .plain .brk), (0x01, .byte .oraIzx), (0x05, .byte .oraZp), (0x06, .byte .aslZp),
      (0x08, .plain .php), (0x09, .byte .oraImm), (0x0A, .plain .aslAcc), (0x0D, .word .oraAbs),
      (0x0E, .word .aslAbs)]
  | 0x1 => [
      (0x10, .byte .bpl), (0x11, .byte .oraIzy), (0x15, .byte .oraZpx), (0x16, .byte .aslZpx),
      (0x18, .plain .clc), (0x19, .word .oraAby), (0x1D, .word .oraAbx), (0x1E, .word .aslAbx)]
  | 0x2 => [
      (0x20, .word .jsr), (0x21, .byte .andIzx), (0x24, .byte .bitZp), (0x25, .byte .andZp),
      (0x26, .byte .rolZp), (0x28, .plain .plp), (0x29, .byte .andImm), (0x2A, .plain .rolAcc),
      (0x2C, .word .bitAbs), (0x2D, .word .andAbs), (0x2E, .word .rolAbs)]
  | 0x3 => [
      (0x30, .byte .bmi), (0x31, .byte .andIzy), (0x35, .byte .andZpx), (0x36, .byte .rolZpx),
      (0x38, .plain .sec), (0x39, .word .andAby), (0x3D, .word .andAbx), (0x3E, .word .rolAbx)]
  | 0x4 => [
      (0x40, .plain .rti), (0x41, .byte .eorIzx), (0x45, .byte .eorZp), (0x46, .byte .lsrZp),
      (0x48, .plain .pha), (0x49, .byte .eorImm), (0x4A, .plain .lsrAcc), (0x4C, .word .jmpAbs),
      (0x4D, .word .eorAbs), (0x4E, .word .lsrAbs)]
  | 0x5 => [
      (0x50, .byte .bvc), (0x51, .byte .eorIzy), (0x55, .byte .eorZpx), (0x56, .byte .lsrZpx),
      (0x58, .plain .cli), (0x59, .word .eorAby), (0x5D, .word .eorAbx), (0x5E, .word .lsrAbx)]
  | 0x6 => [
      (0x60, .plain .rts), (0x61, .byte .adcIzx), (0x65, .byte .adcZp), (0x66, .byte .rorZp),
      (0x68, .plain .pla), (0x69, .byte .adcImm), (0x6A, .plain .rorAcc), (0x6C, .word .jmpInd),
      (0x6D, .word .adcAbs), (0x6E, .word .rorAbs)]
  | 0x7 => [
      (0x70, .byte .bvs), (0x71, .byte .adcIzy), (0x75, .byte .adcZpx), (0x76, .byte .rorZpx),
      (0x78, .plain .sei), (0x79, .word .adcAby), (0x7D, .word .adcAbx), (0x7E, .word .rorAbx)]
  | 0x8 => [
      (0x81, .byte .staIzx), (0x84, .byte .styZp), (0x85, .byte .staZp), (0x86, .byte .stxZp),
      (0x88, .plain .dey), (0x8A, .plain .txa), (0x8C, .word .styAbs), (0x8D, .word .staAbs),
      (0x8E, .word .stxAbs)]
  | 0x9 => [
      (0x90, .byte .bcc), (0x91, .byte .staIzy), (0x94, .byte .styZpx), (0x95, .byte .staZpx),
      (0x96, .byte .stxZpy), (0x98, .plain .tya), (0x99, .word .staAby), (0x9A, .plain .txs),
      (0x9D, .word .staAbx)]
  | 0xA => [
      (0xA0, .byte .ldyImm), (0xA1, .byte .ldaIzx), (0xA2, .byte .ldxImm), (0xA4, .byte .ldyZp),
      (0xA5, .byte .ldaZp), (0xA6, .byte .ldxZp), (0xA8, .plain .tay), (0xA9, .byte .ldaImm),
      (0xAA, .plain .tax), (0xAC, .word .ldyAbs), (0xAD, .word .ldaAbs), (0xAE, .word .ldxAbs)]
  | 0xB => [
      (0xB0, .byte .bcs), (0xB1, .byte .ldaIzy), (0xB4, .byte .ldyZpx), (0xB5, .byte .ldaZpx),
      (0xB6, .byte .ldxZpy), (0xB8, .plain .clv), (0xB9, .word .ldaAby), (0xBA, .plain .tsx),
      (0xBC, .word .ldyAbx), (0xBD, .word .ldaAbx), (0xBE, .word .ldxAby)]
  | 0xC => [
      (0xC0, .byte .cpyImm), (0xC1, .byte .cmpIzx), (0xC4, .byte .cpyZp), (0xC5, .byte .cmpZp),
      (0xC6, .byte .decZp), (0xC8, .plain .iny), (0xC9, .byte .cmpImm), (0xCA, .plain .dex),
      (0xCC, .word .cpyAbs), (0xCD, .word .cmpAbs), (0xCE, .word .decAbs)]
  | 0xD => [
      (0xD0, .byte .bne), (0xD1, .byte .cmpIzy), (0xD5, .byte .cmpZpx), (0xD6, .byte .decZpx),
      (0xD8, .plain .cld), (0xD9, .word .cmpAby), (0xDD, .word .cmpAbx), (0xDE, .word .decAbx)]
  | 0xE => [
      (0xE0, .byte .cpxImm), (0xE1, .byte .sbcIzx), (0xE4, .byte .cpxZp), (0xE5, .byte .sbcZp),
      (0xE6, .byte .incZp), (0xE8, .plain .inx), (0xE9, .byte .sbcImm), (0xEA, .plain .nop),
      (0xEC, .word .cpxAbs), (0xED, .word .sbcAbs), (0xEE, .word .incAbs)]
  | 0xF => [
      (0xF0, .byte .beq), (0xF1, .byte .sbcIzy), (0xF5, .byte .sbcZpx), (0xF6, .byte .incZpx),
      (0xF8, .plain .sed), (0xF9, .word .sbcAby), (0xFD, .word .sbcAbx), (0xFE, .word .incAbx)]
  | _ => []

/-- `Table[opcode]`: the entry of an opcode byte, if it has one (R75, R91). -/
def entryOf (opcode : Byte) : Option Entry := (tableRow (opcode.toNat / 16)).lookup opcode

/-- Apply an entry to the bytes after the opcode byte, and give the bytes it leaves (R71, R73). -/
def Entry.take : Entry → List Byte → Except DecodeError (Instr × List Byte)
  | .plain i, rest => .ok (i, rest)
  | .byte f, b :: rest => .ok (f b, rest)
  | .word f, lo :: hi :: rest => .ok (f (Machine.joinBytes hi lo), rest)
  | .byte _, [] => .error .truncated
  | .word _, [] => .error .truncated
  | .word _, [_] => .error .truncated

/-- Decode the instruction at the head of a byte sequence: byte 0 alone selects the entry (R70). -/
def decode : List Byte → Except DecodeError (Instr × List Byte)
  | [] => .error .truncated
  | opcode :: rest =>
    match entryOf opcode with
    | none => .error (.illegalOpcode opcode)
    | some e => e.take rest

/-- An operand word as it lies in memory, low byte first (R44, R73). -/
def wordBytes (w : Word) : List Byte := [Machine.lowByte w, Machine.highByte w]

/-- The bytes of an instruction, from the opcode list of R76 and the operand layouts of R71. -/
def encode : Instr → List Byte
  | .brk => [0x00]
  | .oraIzx zp8 => [0x01, zp8]
  | .oraZp zp8 => [0x05, zp8]
  | .aslZp zp8 => [0x06, zp8]
  | .php => [0x08]
  | .oraImm imm8 => [0x09, imm8]
  | .aslAcc => [0x0A]
  | .oraAbs abs16 => 0x0D :: wordBytes abs16
  | .aslAbs abs16 => 0x0E :: wordBytes abs16
  | .bpl rel8 => [0x10, rel8]
  | .oraIzy zp8 => [0x11, zp8]
  | .oraZpx zp8 => [0x15, zp8]
  | .aslZpx zp8 => [0x16, zp8]
  | .clc => [0x18]
  | .oraAby abs16 => 0x19 :: wordBytes abs16
  | .oraAbx abs16 => 0x1D :: wordBytes abs16
  | .aslAbx abs16 => 0x1E :: wordBytes abs16
  | .jsr abs16 => 0x20 :: wordBytes abs16
  | .andIzx zp8 => [0x21, zp8]
  | .bitZp zp8 => [0x24, zp8]
  | .andZp zp8 => [0x25, zp8]
  | .rolZp zp8 => [0x26, zp8]
  | .plp => [0x28]
  | .andImm imm8 => [0x29, imm8]
  | .rolAcc => [0x2A]
  | .bitAbs abs16 => 0x2C :: wordBytes abs16
  | .andAbs abs16 => 0x2D :: wordBytes abs16
  | .rolAbs abs16 => 0x2E :: wordBytes abs16
  | .bmi rel8 => [0x30, rel8]
  | .andIzy zp8 => [0x31, zp8]
  | .andZpx zp8 => [0x35, zp8]
  | .rolZpx zp8 => [0x36, zp8]
  | .sec => [0x38]
  | .andAby abs16 => 0x39 :: wordBytes abs16
  | .andAbx abs16 => 0x3D :: wordBytes abs16
  | .rolAbx abs16 => 0x3E :: wordBytes abs16
  | .rti => [0x40]
  | .eorIzx zp8 => [0x41, zp8]
  | .eorZp zp8 => [0x45, zp8]
  | .lsrZp zp8 => [0x46, zp8]
  | .pha => [0x48]
  | .eorImm imm8 => [0x49, imm8]
  | .lsrAcc => [0x4A]
  | .jmpAbs abs16 => 0x4C :: wordBytes abs16
  | .eorAbs abs16 => 0x4D :: wordBytes abs16
  | .lsrAbs abs16 => 0x4E :: wordBytes abs16
  | .bvc rel8 => [0x50, rel8]
  | .eorIzy zp8 => [0x51, zp8]
  | .eorZpx zp8 => [0x55, zp8]
  | .lsrZpx zp8 => [0x56, zp8]
  | .cli => [0x58]
  | .eorAby abs16 => 0x59 :: wordBytes abs16
  | .eorAbx abs16 => 0x5D :: wordBytes abs16
  | .lsrAbx abs16 => 0x5E :: wordBytes abs16
  | .rts => [0x60]
  | .adcIzx zp8 => [0x61, zp8]
  | .adcZp zp8 => [0x65, zp8]
  | .rorZp zp8 => [0x66, zp8]
  | .pla => [0x68]
  | .adcImm imm8 => [0x69, imm8]
  | .rorAcc => [0x6A]
  | .jmpInd ptr16 => 0x6C :: wordBytes ptr16
  | .adcAbs abs16 => 0x6D :: wordBytes abs16
  | .rorAbs abs16 => 0x6E :: wordBytes abs16
  | .bvs rel8 => [0x70, rel8]
  | .adcIzy zp8 => [0x71, zp8]
  | .adcZpx zp8 => [0x75, zp8]
  | .rorZpx zp8 => [0x76, zp8]
  | .sei => [0x78]
  | .adcAby abs16 => 0x79 :: wordBytes abs16
  | .adcAbx abs16 => 0x7D :: wordBytes abs16
  | .rorAbx abs16 => 0x7E :: wordBytes abs16
  | .staIzx zp8 => [0x81, zp8]
  | .styZp zp8 => [0x84, zp8]
  | .staZp zp8 => [0x85, zp8]
  | .stxZp zp8 => [0x86, zp8]
  | .dey => [0x88]
  | .txa => [0x8A]
  | .styAbs abs16 => 0x8C :: wordBytes abs16
  | .staAbs abs16 => 0x8D :: wordBytes abs16
  | .stxAbs abs16 => 0x8E :: wordBytes abs16
  | .bcc rel8 => [0x90, rel8]
  | .staIzy zp8 => [0x91, zp8]
  | .styZpx zp8 => [0x94, zp8]
  | .staZpx zp8 => [0x95, zp8]
  | .stxZpy zp8 => [0x96, zp8]
  | .tya => [0x98]
  | .staAby abs16 => 0x99 :: wordBytes abs16
  | .txs => [0x9A]
  | .staAbx abs16 => 0x9D :: wordBytes abs16
  | .ldyImm imm8 => [0xA0, imm8]
  | .ldaIzx zp8 => [0xA1, zp8]
  | .ldxImm imm8 => [0xA2, imm8]
  | .ldyZp zp8 => [0xA4, zp8]
  | .ldaZp zp8 => [0xA5, zp8]
  | .ldxZp zp8 => [0xA6, zp8]
  | .tay => [0xA8]
  | .ldaImm imm8 => [0xA9, imm8]
  | .tax => [0xAA]
  | .ldyAbs abs16 => 0xAC :: wordBytes abs16
  | .ldaAbs abs16 => 0xAD :: wordBytes abs16
  | .ldxAbs abs16 => 0xAE :: wordBytes abs16
  | .bcs rel8 => [0xB0, rel8]
  | .ldaIzy zp8 => [0xB1, zp8]
  | .ldyZpx zp8 => [0xB4, zp8]
  | .ldaZpx zp8 => [0xB5, zp8]
  | .ldxZpy zp8 => [0xB6, zp8]
  | .clv => [0xB8]
  | .ldaAby abs16 => 0xB9 :: wordBytes abs16
  | .tsx => [0xBA]
  | .ldyAbx abs16 => 0xBC :: wordBytes abs16
  | .ldaAbx abs16 => 0xBD :: wordBytes abs16
  | .ldxAby abs16 => 0xBE :: wordBytes abs16
  | .cpyImm imm8 => [0xC0, imm8]
  | .cmpIzx zp8 => [0xC1, zp8]
  | .cpyZp zp8 => [0xC4, zp8]
  | .cmpZp zp8 => [0xC5, zp8]
  | .decZp zp8 => [0xC6, zp8]
  | .iny => [0xC8]
  | .cmpImm imm8 => [0xC9, imm8]
  | .dex => [0xCA]
  | .cpyAbs abs16 => 0xCC :: wordBytes abs16
  | .cmpAbs abs16 => 0xCD :: wordBytes abs16
  | .decAbs abs16 => 0xCE :: wordBytes abs16
  | .bne rel8 => [0xD0, rel8]
  | .cmpIzy zp8 => [0xD1, zp8]
  | .cmpZpx zp8 => [0xD5, zp8]
  | .decZpx zp8 => [0xD6, zp8]
  | .cld => [0xD8]
  | .cmpAby abs16 => 0xD9 :: wordBytes abs16
  | .cmpAbx abs16 => 0xDD :: wordBytes abs16
  | .decAbx abs16 => 0xDE :: wordBytes abs16
  | .cpxImm imm8 => [0xE0, imm8]
  | .sbcIzx zp8 => [0xE1, zp8]
  | .cpxZp zp8 => [0xE4, zp8]
  | .sbcZp zp8 => [0xE5, zp8]
  | .incZp zp8 => [0xE6, zp8]
  | .inx => [0xE8]
  | .sbcImm imm8 => [0xE9, imm8]
  | .nop => [0xEA]
  | .cpxAbs abs16 => 0xEC :: wordBytes abs16
  | .sbcAbs abs16 => 0xED :: wordBytes abs16
  | .incAbs abs16 => 0xEE :: wordBytes abs16
  | .beq rel8 => [0xF0, rel8]
  | .sbcIzy zp8 => [0xF1, zp8]
  | .sbcZpx zp8 => [0xF5, zp8]
  | .incZpx zp8 => [0xF6, zp8]
  | .sed => [0xF8]
  | .sbcAby abs16 => 0xF9 :: wordBytes abs16
  | .sbcAbx abs16 => 0xFD :: wordBytes abs16
  | .incAbx abs16 => 0xFE :: wordBytes abs16

/-- The bytes of an instruction whose bits are `w`, byte 0 in bits 7 to 0, byte 1 in bits 15 to 8 and byte 2 in
bits 23 to 16; every bit from `nbits` up is 0. Three bytes are the longest instruction (R70). -/
def tableBytes (nbits w : Nat) : List Byte :=
  let v := w % 2 ^ nbits
  [BitVec.ofNat 8 v, BitVec.ofNat 8 (v / 256), BitVec.ofNat 8 (v / 65536)]

/-- The instruction the decoder reads from a word numbered as spec/opcode_table.json numbers its bits. -/
def decodeTableWord (nbits w : Nat) : Option Instr :=
  match decode (tableBytes nbits w) with
  | .ok (i, _) => some i
  | .error _ => none

end Sys2Proof
end

