-- ==== Sys2Proof/Config.lean ====
section
/-! DEFINITION. What 00_scope.md R5 fixes for the machine, and the open parameters `poweron_sp` and `poweron_p`
of 92_eei_decisions.md D10. The third open parameter, `host_hook`, is data of the state (log entry 7). -/

namespace Sys2Proof

/-- The stack page, addresses 0x0100 to 0x01FF (R5, R13). -/
def Config.stackBase : Word := 0x0100

/-- Where LOAD copies a program image to (R5, R261). -/
def Config.loadBase : Word := 0x8000

/-- The longest image LOAD accepts (R5, R233). -/
def Config.maxImage : Nat := 0x8000

/-- The address of the reset vector's low byte; its high byte follows (R5, R49). -/
def Config.resetVector : Word := 0xFFFC

/-- SP after RESET (R5, R262). -/
def Config.resetSp : Byte := 0xFD

/-- P after RESET: I and U set (R5, R262). -/
def Config.resetP : Byte := 0x24

/-- FREE VALUE (R260, D10, log entry 10): whether creation gives SP its reset value. It has no body, so no proof
can see it. -/
opaque Config.powerOnSpIsReset : Bool

/-- FREE VALUE (R260, D10, log entry 10): whether creation gives P its reset value. It has no body, so no proof
can see it. -/
opaque Config.powerOnPIsReset : Bool

/-- `poweron_sp`, one of 0x00 and 0xFD (R29, R260). -/
def Config.powerOnSp : Byte := if Config.powerOnSpIsReset then 0xFD else 0x00

/-- `poweron_p`, one of 0x00 and 0x24 (R29, R260). -/
def Config.powerOnP : Byte := if Config.powerOnPIsReset then 0x24 else 0x00

end Sys2Proof
end

