-- ==== Sys2Proof/Machine/State.lean ====
section
/-! DEFINITION. The state of the core (10_state.md R10 to R30), the host's side of the interface as plain data
(60_exceptions.md R245 to R249), and the state after RESET. -/

namespace Sys2Proof.Machine

/-- The faults of 60_exceptions.md R230 that enter the FAULT run state. They are raised as a NEXT state whose run
state is `faulted`; `step` answers `Outcome.fault` with the same cause only when it is asked to step a machine
that stands in FAULT and has no host event to take (R230: no step is performed). Safe: the machine stops where the
spec's engine stops. -/
inductive Fault where
  /-- Code (a). Raised by the engine step on an opcode byte with no table entry; the info is the byte and its
  address (R231). Safe. -/
  | illegalOpcode (opcode : Byte) (addr : Word)
  /-- Code (b). Raised by the resolver on NoneAddressing; no instruction of the table ever asks (R104, R232).
  Safe. -/
  | invalidAddressingMode
  deriving DecidableEq, Repr

/-- Why a step has no meaning. -/
inductive Refusal where
  /-- Raised by an arm of `exec` whose instruction has no meaning yet. Safe: nothing is claimed of it. -/
  | notModelled (mnemonic : String)
  /-- Raised by `step` in IDLE with no host event pending: the engine performs steps only in RUNNING (R27, R90).
  Safe: the hardware makes no step there either. -/
  | engineIdle
  /-- Raised by `step` in HALTED with no host event pending: the run is over until a RUN or RESET event (R236).
  Safe: the hardware makes no step there either. -/
  | engineHalted
  deriving DecidableEq, Repr

/-- The run state (R27). -/
inductive RunState where
  | idle
  | running
  | halted
  | faulted (cause : Fault)
  deriving DecidableEq, Repr

/-- The registers a host may read and write (60_exceptions.md R248). -/
inductive HostRegister where
  | a | x | y | sp | pc | p
  deriving DecidableEq, Repr

/-- One host access between steps: HOST_READ, HOST_WRITE, register read and register write (R245, R248;
20_memory.md R56). DESIGN CHOICE (log entry 17): there is no access that reads the run state. R27 says that the host
can read it and R245 lists no event for that; here the host reads it as the field `run` of the state. -/
inductive HostAccess where
  | readMem (addr : Word)
  | writeMem (addr : Word) (v : Byte)
  | readReg (r : HostRegister)
  /-- The value is reduced to the register's width (R248). -/
  | writeReg (r : HostRegister) (v : Nat)
  deriving DecidableEq, Repr

/-- What the host answers at the end of a hook call (R246), with the two events that may come with it (R245). -/
inductive HookAnswer where
  /-- DOC's `continue`: the engine goes on from the state the hook left. -/
  | resume
  /-- The run state becomes IDLE with the state the hook left. -/
  | stop
  /-- A RESET from inside the hook together with a stop (R245). -/
  | stopAndReset
  /-- A POWER_ON between two steps of a run (R245: any time). -/
  | powerOn
  deriving DecidableEq, Repr

/-- One call of the host hook: what the host reads and writes, in order, and its answer (R246). -/
structure HookReply where
  accesses : List HostAccess
  answer : HookAnswer
  deriving DecidableEq, Repr

/-- An interface event (R245). `run` carries the host hook of the run as the replies to its coming calls; the
empty list is the identity hook of `run()` (R246, log entry 7). -/
inductive HostEvent where
  | powerOn
  | load (image : List Byte)
  | reset
  | run (hook : List HookReply)
  | access (what : HostAccess)
  deriving DecidableEq, Repr

/-- What the host was last told (log entry 12). -/
inductive HostReport where
  /-- Nothing yet. -/
  | silent
  /-- The event was accepted. -/
  | accepted
  /-- The byte a HOST_READ returned (20_memory.md R56). -/
  | byteRead (v : Byte)
  /-- The value a register read returned (R248). -/
  | registerRead (v : Nat)
  /-- LoadOverflow, code (c), with the image length (R233). -/
  | loadOverflow (length : Nat)
  /-- A RUN with `armed = 0` or in FAULT (R249, R264). -/
  | runRefused
  deriving DecidableEq, Repr

/-- Memory as its bytes that differ from 0x00, by rising address (R26; `Memory.wf` of Machine/Ops.lean). -/
abbrev Memory := List Host.Cell

/-- The state. The first nine fields are the spec's (R10 to R30); the last three are the model's own, the host as
an agent (log entries 6, 7, 12). -/
structure State where
  /-- Accumulator (R10). -/
  a : Byte
  /-- Index register X (R10). -/
  x : Byte
  /-- Index register Y (R10). -/
  y : Byte
  /-- Stack pointer (R13). -/
  sp : Byte
  /-- Status register (R15, R16). -/
  p : Byte
  /-- Program counter (R11). -/
  pc : Word
  /-- The 65536 bytes of memory (R26). -/
  mem : Memory
  /-- Run state (R27). -/
  run : RunState
  /-- A RESET has come since POWER_ON and since the last LOAD (R27). -/
  armed : Bool
  /-- The host's replies to the coming hook calls, oldest first; when none is left the hook is the identity. -/
  hook : List HookReply
  /-- The host's events not yet taken, oldest first. -/
  pending : List HostEvent
  /-- What the host was last told. -/
  report : HostReport
  deriving DecidableEq, Repr

/-- The machine right after RESET (R29, R263) with memory as POWER_ON leaves it, so that the reset vector reads
0x0000 (95_test_vectors.md V3, log entry 2). The last three fields are the model's choice (log entry 13). -/
def State.reset : State where
  a := 0x00
  x := 0x00
  y := 0x00
  sp := Config.resetSp
  p := Config.resetP
  pc := 0x0000
  mem := []
  run := .idle
  armed := true
  hook := []
  pending := []
  report := .silent

/-- Write A. -/
def State.setA (s : State) (v : Byte) : State := { s with a := v }
/-- Write X. -/
def State.setX (s : State) (v : Byte) : State := { s with x := v }
/-- Write Y. -/
def State.setY (s : State) (v : Byte) : State := { s with y := v }
/-- Write SP. -/
def State.setSp (s : State) (v : Byte) : State := { s with sp := v }
/-- Write P as a byte. -/
def State.setP (s : State) (v : Byte) : State := { s with p := v }
/-- Write PC. -/
def State.setPc (s : State) (v : Word) : State := { s with pc := v }
/-- Replace memory. -/
def State.setMem (s : State) (v : Memory) : State := { s with mem := v }
/-- Change the run state. -/
def State.setRun (s : State) (v : RunState) : State := { s with run := v }
/-- Change `armed`. -/
def State.setArmed (s : State) (v : Bool) : State := { s with armed := v }
/-- Replace the coming hook replies. -/
def State.setHook (s : State) (v : List HookReply) : State := { s with hook := v }
/-- Replace the pending host events. -/
def State.setPending (s : State) (v : List HostEvent) : State := { s with pending := v }
/-- Tell the host. -/
def State.setReport (s : State) (v : HostReport) : State := { s with report := v }

end Sys2Proof.Machine
end

