-- ==== Sys2Proof/Machine/Ops.lean ====
section
/-! DEFINITION. The named operations over memory, registers, the stack, PC and the run state (20_memory.md R40 to
R43, 40_addressing_and_step.md R90 to R109, 60_exceptions.md R230, R236, 70_reset_and_hazards.md R262). -/

namespace Sys2Proof.Machine

/-- What an address that nothing has written since POWER_ON reads as: 0x00 (R29, R47). -/
def unlistedByte : Byte := 0x00

/-- The canonical form from address `lo` on: addresses rising, inside the address space, no byte equal to what an
unlisted address reads as. -/
def Memory.wfFrom (lo : Nat) : Memory → Bool
  | [] => true
  | (a, v) :: rest => decide (lo ≤ a) && decide (a < 65536) && (v != unlistedByte) && Memory.wfFrom (a + 1) rest

/-- Memory is in its canonical form. -/
def Memory.wf (m : Memory) : Bool := Memory.wfFrom 0 m

/-- The byte at an address (R40, R47). -/
def Memory.read : Memory → Nat → Byte
  | [], _ => unlistedByte
  | (b, w) :: rest, a => if a = b then w else Memory.read rest a

/-- Make an address unlisted. -/
def Memory.erase (m : Memory) (a : Nat) : Memory := m.filter fun c => c.1 != a

/-- List a byte at an address that is not listed, before the first greater address. -/
def Memory.insert : Memory → Nat → Byte → Memory
  | [], a, v => [(a, v)]
  | (b, w) :: rest, a, v =>
    if a < b then (a, v) :: (b, w) :: rest else (b, w) :: Memory.insert rest a v

/-- Store a byte at an address, keeping the canonical form: a byte equal to what an unlisted address reads as is
not listed (R41). -/
def Memory.write (m : Memory) (a : Nat) (v : Byte) : Memory :=
  if v = unlistedByte then Memory.erase m a else Memory.insert (Memory.erase m a) a v

/-- `MemRead(addr, 1)` (R40). -/
def State.read (s : State) (addr : Word) : Byte := Memory.read s.mem addr.toNat

/-- `MemWrite(addr, 1, v)` (R41). -/
def State.write (s : State) (addr : Word) (v : Byte) : State := s.setMem (Memory.write s.mem addr.toNat v)

/-- `MemRead(addr, 2)`: low byte at `addr`, high byte at `u16(addr + 1)` (R42). -/
def State.read16 (s : State) (addr : Word) : Word := joinBytes (s.read (addr + 1)) (s.read addr)

/-- `MemWrite(addr, 2, w)`: low byte first (R43). -/
def State.write16 (s : State) (addr : Word) (w : Word) : State :=
  (s.write addr (lowByte w)).write (addr + 1) (highByte w)

/-- Store bytes at consecutive addresses (modulo 65536), the first at `addr`. -/
def State.writeBytes : State → Word → List Byte → State
  | s, _, [] => s
  | s, addr, b :: rest => State.writeBytes (s.write addr b) (addr + 1) rest

/-- The word whose low byte is at `addr` and whose high byte is at the next address of the same page: the pointer
reads of R102, R103 (page 0) and of JMP Indirect (R200). -/
def State.readWordInPage (s : State) (addr : Word) : Word :=
  joinBytes (s.read (joinBytes (highByte addr) (lowByte addr + 1))) (s.read addr)

/-- The general registers (R10), for the rules stated over a register variable `r[n]` (R7). -/
inductive Reg where
  | a | x | y
  deriving DecidableEq, Repr

/-- `r[n]` (R7). -/
def State.reg (s : State) : Reg → Byte
  | .a => s.a
  | .x => s.x
  | .y => s.y

/-- `r[n] <- v` (R7). -/
def State.setReg (s : State) (r : Reg) (v : Byte) : State :=
  match r with
  | .a => s.setA v
  | .x => s.setX v
  | .y => s.setY v

/-- The address that SP designates, `0x0100 + SP` (R13). -/
def stackAddr (sp : Byte) : Word := Config.stackBase + zext16 sp

/-- `Push8(v)` (R105). -/
def State.push8 (s : State) (v : Byte) : State := (s.write (stackAddr s.sp) v).setSp (s.sp - 1)

/-- `Pull8()`: the pulled byte and the state after (R106). -/
def State.pull8 (s : State) : Byte × State := (s.read (stackAddr (s.sp + 1)), s.setSp (s.sp + 1))

/-- `Push16(w)`: high byte first (R107). -/
def State.push16 (s : State) (w : Word) : State := (s.push8 (highByte w)).push8 (lowByte w)

/-- `Pull16()`: low byte first (R108). -/
def State.pull16 (s : State) : Word × State :=
  let (lo, s1) := s.pull8
  let (hi, s2) := s1.pull8
  (joinBytes hi lo, s2)

/-- PC past the opcode byte: during a semantic rule PC holds the address of the byte after it (R11, R90). -/
def State.pastOpcode (s : State) : State := s.setPc (s.pc + 1)

/-- The advance by `length - 1` of an instruction that did not write PC (R90, R92). -/
def State.pastOperands (s : State) (n : Nat) : State := s.setPc (s.pc + BitVec.ofNat 16 n)

/-- The three bytes from PC on, in ascending address order (modulo 65536): an opcode byte and the longest operand
(R44, R70, R73). Reading a byte that the instruction does not have changes nothing (R47). -/
def State.fetchBytes (s : State) : List Byte := [s.read s.pc, s.read (s.pc + 1), s.read (s.pc + 2)]

/-- `raise F(info)` inside a step: the run state becomes FAULT with the cause, and nothing else changes; what the
step wrote before stays written. There is no vector, no saved state, no change of P or SP (R230, R240). -/
def State.raise (s : State) (cause : Fault) : State := s.setRun (.faulted cause)

/-- `halt`: the run state becomes HALTED (R236). -/
def State.halt (s : State) : State := s.setRun .halted

/-- RTI's return: P from the stack with bits 4 and 5 cleared, then PC from the stack, nothing added (R203, R241). -/
def State.returnFromInterrupt (s : State) : State :=
  let (status, s1) := s.pull8
  let (target, s2) := s1.pull16
  (s2.setP (status &&& 0xCF)).setPc target

/-- RESET, the only way out of FAULT besides POWER_ON (R230, R262). It reads the reset vector and changes no
memory. -/
def State.resetEvent (s : State) : State :=
  { s with
    a := 0x00
    x := 0x00
    y := 0x00
    p := Config.resetP
    sp := Config.resetSp
    pc := s.read16 Config.resetVector
    run := .idle
    armed := true }

end Sys2Proof.Machine
end

