-- ==== Sys2Proof/Machine/Flags.lean ====
section
/-! DEFINITION. The flags of P and every flag computation of the spec, as functions of bytes (10_state.md R16 to
R24, 40_addressing_and_step.md R110, 42_arithmetic_logic.md, 43_shift_incdec.md). -/

namespace Sys2Proof.Machine

/-- The eight flags (R16). -/
inductive Flag where
  | c | z | i | d | b | u | v | n
  deriving DecidableEq, Repr

/-- A flag's bit in P (R16). -/
def Flag.bit : Flag → Nat
  | .c => 0
  | .z => 1
  | .i => 2
  | .d => 3
  | .b => 4
  | .u => 5
  | .v => 6
  | .n => 7

/-- `P.f` (R7). -/
def getFlag (f : Flag) (p : Byte) : Bool := p.getLsbD f.bit

/-- `P.f <- b`, the other seven bits unchanged (R7). -/
def putFlag (f : Flag) (b : Bool) (p : Byte) : Byte :=
  if b then p ||| (1#8 <<< f.bit) else p &&& ~~~(1#8 <<< f.bit)

/-- `SetZN(v)` (R110). -/
def setZN (v : Byte) (p : Byte) : Byte := putFlag .n (v.getLsbD 7) (putFlag .z (decide (v = 0)) p)

/-- A + M + C: the new A and P (R150). P.D is not read (R159, D4). -/
def addWithCarry (a m p : Byte) : Byte × Byte :=
  let sum := a.toNat + m.toNat + (getFlag .c p).toNat
  let result := BitVec.ofNat 8 sum
  let overflow := decide ((m ^^^ result) &&& (result ^^^ a) &&& 0x80 ≠ 0)
  (result, setZN result (putFlag .v overflow (putFlag .c (decide (sum > 255)) p)))

/-- SBC is ADC of the one's complement of M (R151, D3). -/
def subWithCarry (a m p : Byte) : Byte × Byte := addWithCarry a (m ^^^ 0xFF) p

/-- AND: the new A and P (R152). -/
def bitAnd (a m p : Byte) : Byte × Byte := (a &&& m, setZN (a &&& m) p)

/-- EOR: the new A and P (R153). -/
def bitEor (a m p : Byte) : Byte × Byte := (a ^^^ m, setZN (a ^^^ m) p)

/-- ORA: the new A and P (R154). -/
def bitOra (a m p : Byte) : Byte × Byte := (a ||| m, setZN (a ||| m) p)

/-- The new P of a compare of register value `r` with `m` (R160). -/
def compareFlags (r m p : Byte) : Byte := setZN (r - m) (putFlag .c (decide (m.toNat ≤ r.toNat)) p)

/-- The new P of BIT: Z from A & M, N and V from bits 7 and 6 of M (R158). -/
def bitTestFlags (a m p : Byte) : Byte :=
  putFlag .v (m.getLsbD 6) (putFlag .n (m.getLsbD 7) (putFlag .z (decide (a &&& m = 0)) p))

/-- ASL: the result byte and the new P (R170). -/
def shiftLeft (v p : Byte) : Byte × Byte :=
  let w := v <<< 1
  (w, setZN w (putFlag .c (v.getLsbD 7) p))

/-- LSR: the result byte and the new P (R171). -/
def shiftRight (v p : Byte) : Byte × Byte :=
  let w := v >>> 1
  (w, setZN w (putFlag .c (v.getLsbD 0) p))

/-- ROL: the old Carry enters bit 0 (R172). -/
def rotateLeft (v p : Byte) : Byte × Byte :=
  let w := (v <<< 1) ||| (if getFlag .c p then 0x01 else 0x00)
  (w, setZN w (putFlag .c (v.getLsbD 7) p))

/-- ROR: the old Carry enters bit 7 (R173). -/
def rotateRight (v p : Byte) : Byte × Byte :=
  let w := (v >>> 1) ||| (if getFlag .c p then 0x80 else 0x00)
  (w, setZN w (putFlag .c (v.getLsbD 0) p))

/-- INC, INX, INY: plus one, no carry (R174, R176, R177). -/
def increment (v p : Byte) : Byte × Byte := (v + 1, setZN (v + 1) p)

/-- DEC, DEX, DEY: minus one, no carry (R175, R178, R179). -/
def decrement (v p : Byte) : Byte × Byte := (v - 1, setZN (v - 1) p)

/-- The byte PHP pushes: bits 4 and 5 forced to 1 (R211). -/
def pushedStatus (p : Byte) : Byte := p ||| 0x30

/-- What PLP makes of the pulled byte: bits 4 and 5 cleared (R213). -/
def pulledStatus (v : Byte) : Byte := v &&& 0xCF

end Sys2Proof.Machine
end

