-- ==== Sys2Proof/Machine/Operands.lean ====
section
/-! DEFINITION. The addressing-mode resolver: the ten tags and their effective addresses (40_addressing_and_step.md
R94 to R104). In this file PC is the address of the first operand byte. -/

namespace Sys2Proof.Machine

/-- An operand by resolver tag (R72), with the operand byte or word that stands at PC (R73, log entry 4). -/
inductive Operand where
  /-- Immediate (R95). -/
  | imm (imm8 : Byte)
  /-- ZeroPage (R96). -/
  | zp (zp8 : Byte)
  /-- ZeroPage,X (R97). -/
  | zpx (zp8 : Byte)
  /-- ZeroPage,Y (R98). -/
  | zpy (zp8 : Byte)
  /-- Absolute (R99). -/
  | abs (abs16 : Word)
  /-- Absolute,X (R100). -/
  | abx (abs16 : Word)
  /-- Absolute,Y (R101). -/
  | aby (abs16 : Word)
  /-- Indirect,X (R102). -/
  | izx (zp8 : Byte)
  /-- Indirect,Y (R103). -/
  | izy (zp8 : Byte)
  /-- NoneAddressing (R104). -/
  | noneAddressing
  deriving DecidableEq, Repr

/-- `EA(mode)`. Resolving NoneAddressing is an error (R104, R232). -/
def Operand.resolve (m : Operand) (s : State) : Except Fault Word :=
  match m with
  | .imm _ => .ok s.pc
  | .zp zp8 => .ok (zext16 zp8)
  | .zpx zp8 => .ok (zext16 (zp8 + s.x))
  | .zpy zp8 => .ok (zext16 (zp8 + s.y))
  | .abs abs16 => .ok abs16
  | .abx abs16 => .ok (abs16 + zext16 s.x)
  | .aby abs16 => .ok (abs16 + zext16 s.y)
  | .izx zp8 => .ok (s.readWordInPage (zext16 (zp8 + s.x)))
  | .izy zp8 => .ok (s.readWordInPage (zext16 zp8) + zext16 s.y)
  | .noneAddressing => .error .invalidAddressingMode

/-- `M`, the byte at the effective address (R94). For Immediate it is the operand byte itself, which the fetch read
from that address (R46, R95, log entry 4). -/
def Operand.fetch (m : Operand) (ea : Word) (s : State) : Byte :=
  match m with
  | .imm imm8 => imm8
  | _ => s.read ea

/-- How many bytes the operand takes after the opcode byte (R71). -/
def Operand.size : Operand → Nat
  | .imm _ | .zp _ | .zpx _ | .zpy _ | .izx _ | .izy _ => 1
  | .abs _ | .abx _ | .aby _ => 2
  | .noneAddressing => 0

/-- Run the part of a semantic rule that follows `ea = EA(mode)`; a resolver error is raised (R104, R230). -/
def State.withEA (s : State) (m : Operand) (rule : Word → State) : State :=
  match m.resolve s with
  | .ok ea => rule ea
  | .error cause => s.raise cause

end Sys2Proof.Machine
end

