-- ==== Sys2Proof/Machine/Arithmetic.lean ====
section
/-! DEFINITION. The meanings of the arithmetic, logic, compare and bit test (42_arithmetic_logic.md
R150 to R160). Each shared operation
covers the whole step from the opcode byte on; each row of the table has a meaning of its own over it. -/

namespace Sys2Proof.Machine

/-- ADC, SBC, AND, EOR, ORA: A and P from A, M and P (R150 to R154). -/
def accumulatorForm (f : Byte → Byte → Byte → Byte × Byte) (m : Operand) (s : State) : State :=
  let s1 := s.pastOpcode
  s1.withEA m fun ea =>
    let (a, p) := f s1.a (m.fetch ea s1) s1.p
    ((s1.setA a).setP p).pastOperands m.size

/-- `Compare(n)`: only P is written (R155 to R157, R160). -/
def compareForm (r : Reg) (m : Operand) (s : State) : State :=
  let s1 := s.pastOpcode
  s1.withEA m fun ea => (s1.setP (compareFlags (s1.reg r) (m.fetch ea s1) s1.p)).pastOperands m.size

/-- BIT: only P is written (R158). -/
def bitTestForm (m : Operand) (s : State) : State :=
  let s1 := s.pastOpcode
  s1.withEA m fun ea => (s1.setP (bitTestFlags s1.a (m.fetch ea s1) s1.p)).pastOperands m.size

/-- ADC IZX, 0x61 (R150). -/
def execAdcIzx (zp8 : Byte) (s : State) : Host.Outcome State Fault Refusal :=
  .next (accumulatorForm addWithCarry (.izx zp8) s)

/-- ADC ZP, 0x65 (R150). -/
def execAdcZp (zp8 : Byte) (s : State) : Host.Outcome State Fault Refusal :=
  .next (accumulatorForm addWithCarry (.zp zp8) s)

/-- ADC IMM, 0x69 (R150). -/
def execAdcImm (imm8 : Byte) (s : State) : Host.Outcome State Fault Refusal :=
  .next (accumulatorForm addWithCarry (.imm imm8) s)

/-- ADC ABS, 0x6D (R150). -/
def execAdcAbs (abs16 : Word) (s : State) : Host.Outcome State Fault Refusal :=
  .next (accumulatorForm addWithCarry (.abs abs16) s)

/-- ADC IZY, 0x71 (R150). -/
def execAdcIzy (zp8 : Byte) (s : State) : Host.Outcome State Fault Refusal :=
  .next (accumulatorForm addWithCarry (.izy zp8) s)

/-- ADC ZPX, 0x75 (R150). -/
def execAdcZpx (zp8 : Byte) (s : State) : Host.Outcome State Fault Refusal :=
  .next (accumulatorForm addWithCarry (.zpx zp8) s)

/-- ADC ABY, 0x79 (R150). -/
def execAdcAby (abs16 : Word) (s : State) : Host.Outcome State Fault Refusal :=
  .next (accumulatorForm addWithCarry (.aby abs16) s)

/-- ADC ABX, 0x7D (R150). -/
def execAdcAbx (abs16 : Word) (s : State) : Host.Outcome State Fault Refusal :=
  .next (accumulatorForm addWithCarry (.abx abs16) s)

/-- SBC IZX, 0xE1 (R151). -/
def execSbcIzx (zp8 : Byte) (s : State) : Host.Outcome State Fault Refusal :=
  .next (accumulatorForm subWithCarry (.izx zp8) s)

/-- SBC ZP, 0xE5 (R151). -/
def execSbcZp (zp8 : Byte) (s : State) : Host.Outcome State Fault Refusal :=
  .next (accumulatorForm subWithCarry (.zp zp8) s)

/-- SBC IMM, 0xE9 (R151). -/
def execSbcImm (imm8 : Byte) (s : State) : Host.Outcome State Fault Refusal :=
  .next (accumulatorForm subWithCarry (.imm imm8) s)

/-- SBC ABS, 0xED (R151). -/
def execSbcAbs (abs16 : Word) (s : State) : Host.Outcome State Fault Refusal :=
  .next (accumulatorForm subWithCarry (.abs abs16) s)

/-- SBC IZY, 0xF1 (R151). -/
def execSbcIzy (zp8 : Byte) (s : State) : Host.Outcome State Fault Refusal :=
  .next (accumulatorForm subWithCarry (.izy zp8) s)

/-- SBC ZPX, 0xF5 (R151). -/
def execSbcZpx (zp8 : Byte) (s : State) : Host.Outcome State Fault Refusal :=
  .next (accumulatorForm subWithCarry (.zpx zp8) s)

/-- SBC ABY, 0xF9 (R151). -/
def execSbcAby (abs16 : Word) (s : State) : Host.Outcome State Fault Refusal :=
  .next (accumulatorForm subWithCarry (.aby abs16) s)

/-- SBC ABX, 0xFD (R151). -/
def execSbcAbx (abs16 : Word) (s : State) : Host.Outcome State Fault Refusal :=
  .next (accumulatorForm subWithCarry (.abx abs16) s)

/-- AND IZX, 0x21 (R152). -/
def execAndIzx (zp8 : Byte) (s : State) : Host.Outcome State Fault Refusal :=
  .next (accumulatorForm bitAnd (.izx zp8) s)

/-- AND ZP, 0x25 (R152). -/
def execAndZp (zp8 : Byte) (s : State) : Host.Outcome State Fault Refusal :=
  .next (accumulatorForm bitAnd (.zp zp8) s)

/-- AND IMM, 0x29 (R152). -/
def execAndImm (imm8 : Byte) (s : State) : Host.Outcome State Fault Refusal :=
  .next (accumulatorForm bitAnd (.imm imm8) s)

/-- AND ABS, 0x2D (R152). -/
def execAndAbs (abs16 : Word) (s : State) : Host.Outcome State Fault Refusal :=
  .next (accumulatorForm bitAnd (.abs abs16) s)

/-- AND IZY, 0x31 (R152). -/
def execAndIzy (zp8 : Byte) (s : State) : Host.Outcome State Fault Refusal :=
  .next (accumulatorForm bitAnd (.izy zp8) s)

/-- AND ZPX, 0x35 (R152). -/
def execAndZpx (zp8 : Byte) (s : State) : Host.Outcome State Fault Refusal :=
  .next (accumulatorForm bitAnd (.zpx zp8) s)

/-- AND ABY, 0x39 (R152). -/
def execAndAby (abs16 : Word) (s : State) : Host.Outcome State Fault Refusal :=
  .next (accumulatorForm bitAnd (.aby abs16) s)

/-- AND ABX, 0x3D (R152). -/
def execAndAbx (abs16 : Word) (s : State) : Host.Outcome State Fault Refusal :=
  .next (accumulatorForm bitAnd (.abx abs16) s)

/-- EOR IZX, 0x41 (R153). -/
def execEorIzx (zp8 : Byte) (s : State) : Host.Outcome State Fault Refusal :=
  .next (accumulatorForm bitEor (.izx zp8) s)

/-- EOR ZP, 0x45 (R153). -/
def execEorZp (zp8 : Byte) (s : State) : Host.Outcome State Fault Refusal :=
  .next (accumulatorForm bitEor (.zp zp8) s)

/-- EOR IMM, 0x49 (R153). -/
def execEorImm (imm8 : Byte) (s : State) : Host.Outcome State Fault Refusal :=
  .next (accumulatorForm bitEor (.imm imm8) s)

/-- EOR ABS, 0x4D (R153). -/
def execEorAbs (abs16 : Word) (s : State) : Host.Outcome State Fault Refusal :=
  .next (accumulatorForm bitEor (.abs abs16) s)

/-- EOR IZY, 0x51 (R153). -/
def execEorIzy (zp8 : Byte) (s : State) : Host.Outcome State Fault Refusal :=
  .next (accumulatorForm bitEor (.izy zp8) s)

/-- EOR ZPX, 0x55 (R153). -/
def execEorZpx (zp8 : Byte) (s : State) : Host.Outcome State Fault Refusal :=
  .next (accumulatorForm bitEor (.zpx zp8) s)

/-- EOR ABY, 0x59 (R153). -/
def execEorAby (abs16 : Word) (s : State) : Host.Outcome State Fault Refusal :=
  .next (accumulatorForm bitEor (.aby abs16) s)

/-- EOR ABX, 0x5D (R153). -/
def execEorAbx (abs16 : Word) (s : State) : Host.Outcome State Fault Refusal :=
  .next (accumulatorForm bitEor (.abx abs16) s)

/-- ORA IZX, 0x01 (R154). -/
def execOraIzx (zp8 : Byte) (s : State) : Host.Outcome State Fault Refusal :=
  .next (accumulatorForm bitOra (.izx zp8) s)

/-- ORA ZP, 0x05 (R154). -/
def execOraZp (zp8 : Byte) (s : State) : Host.Outcome State Fault Refusal :=
  .next (accumulatorForm bitOra (.zp zp8) s)

/-- ORA IMM, 0x09 (R154). -/
def execOraImm (imm8 : Byte) (s : State) : Host.Outcome State Fault Refusal :=
  .next (accumulatorForm bitOra (.imm imm8) s)

/-- ORA ABS, 0x0D (R154). -/
def execOraAbs (abs16 : Word) (s : State) : Host.Outcome State Fault Refusal :=
  .next (accumulatorForm bitOra (.abs abs16) s)

/-- ORA IZY, 0x11 (R154). -/
def execOraIzy (zp8 : Byte) (s : State) : Host.Outcome State Fault Refusal :=
  .next (accumulatorForm bitOra (.izy zp8) s)

/-- ORA ZPX, 0x15 (R154). -/
def execOraZpx (zp8 : Byte) (s : State) : Host.Outcome State Fault Refusal :=
  .next (accumulatorForm bitOra (.zpx zp8) s)

/-- ORA ABY, 0x19 (R154). -/
def execOraAby (abs16 : Word) (s : State) : Host.Outcome State Fault Refusal :=
  .next (accumulatorForm bitOra (.aby abs16) s)

/-- ORA ABX, 0x1D (R154). -/
def execOraAbx (abs16 : Word) (s : State) : Host.Outcome State Fault Refusal :=
  .next (accumulatorForm bitOra (.abx abs16) s)

/-- CMP IZX, 0xC1 (R155). -/
def execCmpIzx (zp8 : Byte) (s : State) : Host.Outcome State Fault Refusal :=
  .next (compareForm .a (.izx zp8) s)

/-- CMP ZP, 0xC5 (R155). -/
def execCmpZp (zp8 : Byte) (s : State) : Host.Outcome State Fault Refusal :=
  .next (compareForm .a (.zp zp8) s)

/-- CMP IMM, 0xC9 (R155). -/
def execCmpImm (imm8 : Byte) (s : State) : Host.Outcome State Fault Refusal :=
  .next (compareForm .a (.imm imm8) s)

/-- CMP ABS, 0xCD (R155). -/
def execCmpAbs (abs16 : Word) (s : State) : Host.Outcome State Fault Refusal :=
  .next (compareForm .a (.abs abs16) s)

/-- CMP IZY, 0xD1 (R155). -/
def execCmpIzy (zp8 : Byte) (s : State) : Host.Outcome State Fault Refusal :=
  .next (compareForm .a (.izy zp8) s)

/-- CMP ZPX, 0xD5 (R155). -/
def execCmpZpx (zp8 : Byte) (s : State) : Host.Outcome State Fault Refusal :=
  .next (compareForm .a (.zpx zp8) s)

/-- CMP ABY, 0xD9 (R155). -/
def execCmpAby (abs16 : Word) (s : State) : Host.Outcome State Fault Refusal :=
  .next (compareForm .a (.aby abs16) s)

/-- CMP ABX, 0xDD (R155). -/
def execCmpAbx (abs16 : Word) (s : State) : Host.Outcome State Fault Refusal :=
  .next (compareForm .a (.abx abs16) s)

/-- CPX IMM, 0xE0 (R156). -/
def execCpxImm (imm8 : Byte) (s : State) : Host.Outcome State Fault Refusal :=
  .next (compareForm .x (.imm imm8) s)

/-- CPX ZP, 0xE4 (R156). -/
def execCpxZp (zp8 : Byte) (s : State) : Host.Outcome State Fault Refusal :=
  .next (compareForm .x (.zp zp8) s)

/-- CPX ABS, 0xEC (R156). -/
def execCpxAbs (abs16 : Word) (s : State) : Host.Outcome State Fault Refusal :=
  .next (compareForm .x (.abs abs16) s)

/-- CPY IMM, 0xC0 (R157). -/
def execCpyImm (imm8 : Byte) (s : State) : Host.Outcome State Fault Refusal :=
  .next (compareForm .y (.imm imm8) s)

/-- CPY ZP, 0xC4 (R157). -/
def execCpyZp (zp8 : Byte) (s : State) : Host.Outcome State Fault Refusal :=
  .next (compareForm .y (.zp zp8) s)

/-- CPY ABS, 0xCC (R157). -/
def execCpyAbs (abs16 : Word) (s : State) : Host.Outcome State Fault Refusal :=
  .next (compareForm .y (.abs abs16) s)

/-- BIT ZP, 0x24 (R158). -/
def execBitZp (zp8 : Byte) (s : State) : Host.Outcome State Fault Refusal :=
  .next (bitTestForm (.zp zp8) s)

/-- BIT ABS, 0x2C (R158). -/
def execBitAbs (abs16 : Word) (s : State) : Host.Outcome State Fault Refusal :=
  .next (bitTestForm (.abs abs16) s)

end Sys2Proof.Machine
end

