-- ==== Sys2Proof/Machine/Control.lean ====
section
/-! DEFINITION. The meanings of the control transfer (44_control_flow.md R190 to R203). None of these
adds the advance of R92 to a PC it wrote. Each shared operation
covers the whole step from the opcode byte on; each row of the table has a meaning of its own over it. -/

namespace Sys2Proof.Machine

/-- `Branch(P.f == want)`: taken to `u16(PC + 1 + sext_16(off))`, else past the operand byte (R190). -/
def branchForm (f : Flag) (want : Bool) (off : Byte) (s : State) : State :=
  let s1 := s.pastOpcode
  if getFlag f s1.p = want then s1.setPc (s1.pc + 1 + sext16 off) else s1.pastOperands 1

/-- JMP Absolute: PC is the resolved word, with no advance (R92, R199). -/
def jumpAbsolute (target : Word) (s : State) : State :=
  let s1 := s.pastOpcode
  s1.withEA (.abs target) fun ea => s1.setPc ea

/-- JMP Indirect: the high byte's address never leaves the pointer's page (R200). -/
def jumpIndirect (ptr : Word) (s : State) : State :=
  let s1 := s.pastOpcode
  s1.setPc (s1.readWordInPage ptr)

/-- JSR: the address of its own last byte is pushed, the target was fetched before (R201). -/
def callSubroutine (target : Word) (s : State) : State :=
  let s1 := s.pastOpcode
  s1.withEA (.abs target) fun ea => (s1.push16 (s1.pc + 1)).setPc ea

/-- RTS: the pulled word plus 1 (R202). -/
def returnFromSubroutine (s : State) : State :=
  let (w, s1) := s.pastOpcode.pull16
  s1.setPc (w + 1)

/-- BCC REL, 0x90 (R191). -/
def execBcc (rel8 : Byte) (s : State) : Host.Outcome State Fault Refusal :=
  .next (branchForm .c false rel8 s)

/-- BCS REL, 0xB0 (R192). -/
def execBcs (rel8 : Byte) (s : State) : Host.Outcome State Fault Refusal :=
  .next (branchForm .c true rel8 s)

/-- BEQ REL, 0xF0 (R193). -/
def execBeq (rel8 : Byte) (s : State) : Host.Outcome State Fault Refusal :=
  .next (branchForm .z true rel8 s)

/-- BMI REL, 0x30 (R194). -/
def execBmi (rel8 : Byte) (s : State) : Host.Outcome State Fault Refusal :=
  .next (branchForm .n true rel8 s)

/-- BNE REL, 0xD0 (R195). -/
def execBne (rel8 : Byte) (s : State) : Host.Outcome State Fault Refusal :=
  .next (branchForm .z false rel8 s)

/-- BPL REL, 0x10 (R196). -/
def execBpl (rel8 : Byte) (s : State) : Host.Outcome State Fault Refusal :=
  .next (branchForm .n false rel8 s)

/-- BVC REL, 0x50 (R197). -/
def execBvc (rel8 : Byte) (s : State) : Host.Outcome State Fault Refusal :=
  .next (branchForm .v false rel8 s)

/-- BVS REL, 0x70 (R198). -/
def execBvs (rel8 : Byte) (s : State) : Host.Outcome State Fault Refusal :=
  .next (branchForm .v true rel8 s)

/-- JMP ABS, 0x4C (R199). -/
def execJmpAbs (abs16 : Word) (s : State) : Host.Outcome State Fault Refusal :=
  .next (jumpAbsolute abs16 s)

/-- JMP IND, 0x6C (R200). -/
def execJmpInd (ptr16 : Word) (s : State) : Host.Outcome State Fault Refusal :=
  .next (jumpIndirect ptr16 s)

/-- JSR ABS, 0x20 (R201). -/
def execJsr (abs16 : Word) (s : State) : Host.Outcome State Fault Refusal :=
  .next (callSubroutine abs16 s)

/-- RTS IMP, 0x60 (R202). -/
def execRts (s : State) : Host.Outcome State Fault Refusal :=
  .next (returnFromSubroutine s)

/-- RTI IMP, 0x40 (R203). -/
def execRti (s : State) : Host.Outcome State Fault Refusal :=
  .next (s.pastOpcode.returnFromInterrupt)

end Sys2Proof.Machine
end

