-- ==== Sys2Proof/Machine/LoadStore.lean ====
section
/-! DEFINITION. The meanings of the loads, stores and register transfers (41_load_store_transfer.md
R130 to R141). Each shared operation
covers the whole step from the opcode byte on; each row of the table has a meaning of its own over it. -/

namespace Sys2Proof.Machine

/-- Loads: `r[n] <- M`, Z and N from the register (R130 to R132). -/
def loadForm (r : Reg) (m : Operand) (s : State) : State :=
  let s1 := s.pastOpcode
  s1.withEA m fun ea =>
    let v := m.fetch ea s1
    ((s1.setReg r v).setP (setZN v s1.p)).pastOperands m.size

/-- Stores: the register to the effective address, no flag (R133 to R135). -/
def storeForm (r : Reg) (m : Operand) (s : State) : State :=
  let s1 := s.pastOpcode
  s1.withEA m fun ea => (s1.write ea (s1.reg r)).pastOperands m.size

/-- Transfers into a general register: Z and N from the value copied (R136 to R140). -/
def transferForm (v : Byte) (r : Reg) (s : State) : State := (s.pastOpcode.setReg r v).setP (setZN v s.p)

/-- LDA IZX, 0xA1 (R130). -/
def execLdaIzx (zp8 : Byte) (s : State) : Host.Outcome State Fault Refusal :=
  .next (loadForm .a (.izx zp8) s)

/-- LDA ZP, 0xA5 (R130). -/
def execLdaZp (zp8 : Byte) (s : State) : Host.Outcome State Fault Refusal :=
  .next (loadForm .a (.zp zp8) s)

/-- LDA IMM, 0xA9 (R130). -/
def execLdaImm (imm8 : Byte) (s : State) : Host.Outcome State Fault Refusal :=
  .next (loadForm .a (.imm imm8) s)

/-- LDA ABS, 0xAD (R130). -/
def execLdaAbs (abs16 : Word) (s : State) : Host.Outcome State Fault Refusal :=
  .next (loadForm .a (.abs abs16) s)

/-- LDA IZY, 0xB1 (R130). -/
def execLdaIzy (zp8 : Byte) (s : State) : Host.Outcome State Fault Refusal :=
  .next (loadForm .a (.izy zp8) s)

/-- LDA ZPX, 0xB5 (R130). -/
def execLdaZpx (zp8 : Byte) (s : State) : Host.Outcome State Fault Refusal :=
  .next (loadForm .a (.zpx zp8) s)

/-- LDA ABY, 0xB9 (R130). -/
def execLdaAby (abs16 : Word) (s : State) : Host.Outcome State Fault Refusal :=
  .next (loadForm .a (.aby abs16) s)

/-- LDA ABX, 0xBD (R130). -/
def execLdaAbx (abs16 : Word) (s : State) : Host.Outcome State Fault Refusal :=
  .next (loadForm .a (.abx abs16) s)

/-- LDX IMM, 0xA2 (R131). -/
def execLdxImm (imm8 : Byte) (s : State) : Host.Outcome State Fault Refusal :=
  .next (loadForm .x (.imm imm8) s)

/-- LDX ZP, 0xA6 (R131). -/
def execLdxZp (zp8 : Byte) (s : State) : Host.Outcome State Fault Refusal :=
  .next (loadForm .x (.zp zp8) s)

/-- LDX ABS, 0xAE (R131). -/
def execLdxAbs (abs16 : Word) (s : State) : Host.Outcome State Fault Refusal :=
  .next (loadForm .x (.abs abs16) s)

/-- LDX ZPY, 0xB6 (R131). -/
def execLdxZpy (zp8 : Byte) (s : State) : Host.Outcome State Fault Refusal :=
  .next (loadForm .x (.zpy zp8) s)

/-- LDX ABY, 0xBE (R131). -/
def execLdxAby (abs16 : Word) (s : State) : Host.Outcome State Fault Refusal :=
  .next (loadForm .x (.aby abs16) s)

/-- LDY IMM, 0xA0 (R132). -/
def execLdyImm (imm8 : Byte) (s : State) : Host.Outcome State Fault Refusal :=
  .next (loadForm .y (.imm imm8) s)

/-- LDY ZP, 0xA4 (R132). -/
def execLdyZp (zp8 : Byte) (s : State) : Host.Outcome State Fault Refusal :=
  .next (loadForm .y (.zp zp8) s)

/-- LDY ABS, 0xAC (R132). -/
def execLdyAbs (abs16 : Word) (s : State) : Host.Outcome State Fault Refusal :=
  .next (loadForm .y (.abs abs16) s)

/-- LDY ZPX, 0xB4 (R132). -/
def execLdyZpx (zp8 : Byte) (s : State) : Host.Outcome State Fault Refusal :=
  .next (loadForm .y (.zpx zp8) s)

/-- LDY ABX, 0xBC (R132). -/
def execLdyAbx (abs16 : Word) (s : State) : Host.Outcome State Fault Refusal :=
  .next (loadForm .y (.abx abs16) s)

/-- STA IZX, 0x81 (R133). -/
def execStaIzx (zp8 : Byte) (s : State) : Host.Outcome State Fault Refusal :=
  .next (storeForm .a (.izx zp8) s)

/-- STA ZP, 0x85 (R133). -/
def execStaZp (zp8 : Byte) (s : State) : Host.Outcome State Fault Refusal :=
  .next (storeForm .a (.zp zp8) s)

/-- STA ABS, 0x8D (R133). -/
def execStaAbs (abs16 : Word) (s : State) : Host.Outcome State Fault Refusal :=
  .next (storeForm .a (.abs abs16) s)

/-- STA IZY, 0x91 (R133). -/
def execStaIzy (zp8 : Byte) (s : State) : Host.Outcome State Fault Refusal :=
  .next (storeForm .a (.izy zp8) s)

/-- STA ZPX, 0x95 (R133). -/
def execStaZpx (zp8 : Byte) (s : State) : Host.Outcome State Fault Refusal :=
  .next (storeForm .a (.zpx zp8) s)

/-- STA ABY, 0x99 (R133). -/
def execStaAby (abs16 : Word) (s : State) : Host.Outcome State Fault Refusal :=
  .next (storeForm .a (.aby abs16) s)

/-- STA ABX, 0x9D (R133). -/
def execStaAbx (abs16 : Word) (s : State) : Host.Outcome State Fault Refusal :=
  .next (storeForm .a (.abx abs16) s)

/-- STX ZP, 0x86 (R134). -/
def execStxZp (zp8 : Byte) (s : State) : Host.Outcome State Fault Refusal :=
  .next (storeForm .x (.zp zp8) s)

/-- STX ABS, 0x8E (R134). -/
def execStxAbs (abs16 : Word) (s : State) : Host.Outcome State Fault Refusal :=
  .next (storeForm .x (.abs abs16) s)

/-- STX ZPY, 0x96 (R134). -/
def execStxZpy (zp8 : Byte) (s : State) : Host.Outcome State Fault Refusal :=
  .next (storeForm .x (.zpy zp8) s)

/-- STY ZP, 0x84 (R135). -/
def execStyZp (zp8 : Byte) (s : State) : Host.Outcome State Fault Refusal :=
  .next (storeForm .y (.zp zp8) s)

/-- STY ABS, 0x8C (R135). -/
def execStyAbs (abs16 : Word) (s : State) : Host.Outcome State Fault Refusal :=
  .next (storeForm .y (.abs abs16) s)

/-- STY ZPX, 0x94 (R135). -/
def execStyZpx (zp8 : Byte) (s : State) : Host.Outcome State Fault Refusal :=
  .next (storeForm .y (.zpx zp8) s)

/-- TAX IMP, 0xAA (R136). -/
def execTax (s : State) : Host.Outcome State Fault Refusal :=
  .next (transferForm s.a .x s)

/-- TAY IMP, 0xA8 (R137). -/
def execTay (s : State) : Host.Outcome State Fault Refusal :=
  .next (transferForm s.a .y s)

/-- TXA IMP, 0x8A (R138). -/
def execTxa (s : State) : Host.Outcome State Fault Refusal :=
  .next (transferForm s.x .a s)

/-- TYA IMP, 0x98 (R139). -/
def execTya (s : State) : Host.Outcome State Fault Refusal :=
  .next (transferForm s.y .a s)

/-- TSX IMP, 0xBA (R140). -/
def execTsx (s : State) : Host.Outcome State Fault Refusal :=
  .next (transferForm s.sp .x s)

/-- TXS IMP, 0x9A (R141). -/
def execTxs (s : State) : Host.Outcome State Fault Refusal :=
  .next (s.pastOpcode.setSp s.x)

end Sys2Proof.Machine
end

