-- ==== Sys2Proof/Machine/Shift.lean ====
section
/-! DEFINITION. The meanings of the shifts, rotates, increments and decrements (43_shift_incdec.md
R170 to R180). Each shared operation
covers the whole step from the opcode byte on; each row of the table has a meaning of its own over it. -/

namespace Sys2Proof.Machine

/-- A read-modify-write of the byte at the effective address: one read, one write, always done (R180). -/
def readModifyWrite (f : Byte → Byte → Byte × Byte) (m : Operand) (s : State) : State :=
  let s1 := s.pastOpcode
  s1.withEA m fun ea =>
    let (w, p) := f (m.fetch ea s1) s1.p
    ((s1.write ea w).setP p).pastOperands m.size

/-- The ACC form of a shift or rotate: A is the operand and takes the result (R180). -/
def onAccumulator (f : Byte → Byte → Byte × Byte) (s : State) : State :=
  let (w, p) := f s.a s.p
  (s.pastOpcode.setA w).setP p

/-- INX, INY, DEX, DEY (R176 to R179). -/
def onIndex (f : Byte → Byte → Byte × Byte) (r : Reg) (s : State) : State :=
  let (w, p) := f (s.reg r) s.p
  (s.pastOpcode.setReg r w).setP p

/-- ASL ZP, 0x06 (R170). -/
def execAslZp (zp8 : Byte) (s : State) : Host.Outcome State Fault Refusal :=
  .next (readModifyWrite shiftLeft (.zp zp8) s)

/-- ASL ACC, 0x0A (R170). -/
def execAslAcc (s : State) : Host.Outcome State Fault Refusal :=
  .next (onAccumulator shiftLeft s)

/-- ASL ABS, 0x0E (R170). -/
def execAslAbs (abs16 : Word) (s : State) : Host.Outcome State Fault Refusal :=
  .next (readModifyWrite shiftLeft (.abs abs16) s)

/-- ASL ZPX, 0x16 (R170). -/
def execAslZpx (zp8 : Byte) (s : State) : Host.Outcome State Fault Refusal :=
  .next (readModifyWrite shiftLeft (.zpx zp8) s)

/-- ASL ABX, 0x1E (R170). -/
def execAslAbx (abs16 : Word) (s : State) : Host.Outcome State Fault Refusal :=
  .next (readModifyWrite shiftLeft (.abx abs16) s)

/-- LSR ZP, 0x46 (R171). -/
def execLsrZp (zp8 : Byte) (s : State) : Host.Outcome State Fault Refusal :=
  .next (readModifyWrite shiftRight (.zp zp8) s)

/-- LSR ACC, 0x4A (R171). -/
def execLsrAcc (s : State) : Host.Outcome State Fault Refusal :=
  .next (onAccumulator shiftRight s)

/-- LSR ABS, 0x4E (R171). -/
def execLsrAbs (abs16 : Word) (s : State) : Host.Outcome State Fault Refusal :=
  .next (readModifyWrite shiftRight (.abs abs16) s)

/-- LSR ZPX, 0x56 (R171). -/
def execLsrZpx (zp8 : Byte) (s : State) : Host.Outcome State Fault Refusal :=
  .next (readModifyWrite shiftRight (.zpx zp8) s)

/-- LSR ABX, 0x5E (R171). -/
def execLsrAbx (abs16 : Word) (s : State) : Host.Outcome State Fault Refusal :=
  .next (readModifyWrite shiftRight (.abx abs16) s)

/-- ROL ZP, 0x26 (R172). -/
def execRolZp (zp8 : Byte) (s : State) : Host.Outcome State Fault Refusal :=
  .next (readModifyWrite rotateLeft (.zp zp8) s)

/-- ROL ACC, 0x2A (R172). -/
def execRolAcc (s : State) : Host.Outcome State Fault Refusal :=
  .next (onAccumulator rotateLeft s)

/-- ROL ABS, 0x2E (R172). -/
def execRolAbs (abs16 : Word) (s : State) : Host.Outcome State Fault Refusal :=
  .next (readModifyWrite rotateLeft (.abs abs16) s)

/-- ROL ZPX, 0x36 (R172). -/
def execRolZpx (zp8 : Byte) (s : State) : Host.Outcome State Fault Refusal :=
  .next (readModifyWrite rotateLeft (.zpx zp8) s)

/-- ROL ABX, 0x3E (R172). -/
def execRolAbx (abs16 : Word) (s : State) : Host.Outcome State Fault Refusal :=
  .next (readModifyWrite rotateLeft (.abx abs16) s)

/-- ROR ZP, 0x66 (R173). -/
def execRorZp (zp8 : Byte) (s : State) : Host.Outcome State Fault Refusal :=
  .next (readModifyWrite rotateRight (.zp zp8) s)

/-- ROR ACC, 0x6A (R173). -/
def execRorAcc (s : State) : Host.Outcome State Fault Refusal :=
  .next (onAccumulator rotateRight s)

/-- ROR ABS, 0x6E (R173). -/
def execRorAbs (abs16 : Word) (s : State) : Host.Outcome State Fault Refusal :=
  .next (readModifyWrite rotateRight (.abs abs16) s)

/-- ROR ZPX, 0x76 (R173). -/
def execRorZpx (zp8 : Byte) (s : State) : Host.Outcome State Fault Refusal :=
  .next (readModifyWrite rotateRight (.zpx zp8) s)

/-- ROR ABX, 0x7E (R173). -/
def execRorAbx (abs16 : Word) (s : State) : Host.Outcome State Fault Refusal :=
  .next (readModifyWrite rotateRight (.abx abs16) s)

/-- INC ZP, 0xE6 (R174). -/
def execIncZp (zp8 : Byte) (s : State) : Host.Outcome State Fault Refusal :=
  .next (readModifyWrite increment (.zp zp8) s)

/-- INC ABS, 0xEE (R174). -/
def execIncAbs (abs16 : Word) (s : State) : Host.Outcome State Fault Refusal :=
  .next (readModifyWrite increment (.abs abs16) s)

/-- INC ZPX, 0xF6 (R174). -/
def execIncZpx (zp8 : Byte) (s : State) : Host.Outcome State Fault Refusal :=
  .next (readModifyWrite increment (.zpx zp8) s)

/-- INC ABX, 0xFE (R174). -/
def execIncAbx (abs16 : Word) (s : State) : Host.Outcome State Fault Refusal :=
  .next (readModifyWrite increment (.abx abs16) s)

/-- DEC ZP, 0xC6 (R175). -/
def execDecZp (zp8 : Byte) (s : State) : Host.Outcome State Fault Refusal :=
  .next (readModifyWrite decrement (.zp zp8) s)

/-- DEC ABS, 0xCE (R175). -/
def execDecAbs (abs16 : Word) (s : State) : Host.Outcome State Fault Refusal :=
  .next (readModifyWrite decrement (.abs abs16) s)

/-- DEC ZPX, 0xD6 (R175). -/
def execDecZpx (zp8 : Byte) (s : State) : Host.Outcome State Fault Refusal :=
  .next (readModifyWrite decrement (.zpx zp8) s)

/-- DEC ABX, 0xDE (R175). -/
def execDecAbx (abs16 : Word) (s : State) : Host.Outcome State Fault Refusal :=
  .next (readModifyWrite decrement (.abx abs16) s)

/-- INX IMP, 0xE8 (R176). -/
def execInx (s : State) : Host.Outcome State Fault Refusal :=
  .next (onIndex increment .x s)

/-- INY IMP, 0xC8 (R177). -/
def execIny (s : State) : Host.Outcome State Fault Refusal :=
  .next (onIndex increment .y s)

/-- DEX IMP, 0xCA (R178). -/
def execDex (s : State) : Host.Outcome State Fault Refusal :=
  .next (onIndex decrement .x s)

/-- DEY IMP, 0x88 (R179). -/
def execDey (s : State) : Host.Outcome State Fault Refusal :=
  .next (onIndex decrement .y s)

end Sys2Proof.Machine
end

