-- ==== Sys2Proof/Machine/System.lean ====
section
/-! DEFINITION. The meanings of the stack instructions, flag instructions, BRK and NOP (45_stack_flags_system.md
R210 to R222). Each shared operation
covers the whole step from the opcode byte on; each row of the table has a meaning of its own over it. -/

namespace Sys2Proof.Machine

/-- CLC to SEI: one bit of P (R214 to R220). -/
def flagForm (f : Flag) (b : Bool) (s : State) : State := s.pastOpcode.setP (putFlag f b s.p)

/-- PLA: A from the stack, Z and N from it (R212). -/
def pullAccumulator (s : State) : State :=
  let (v, s1) := s.pastOpcode.pull8
  (s1.setA v).setP (setZN v s1.p)

/-- PLP: P from the stack, bits 4 and 5 cleared (R213). -/
def pullStatus (s : State) : State :=
  let (v, s1) := s.pastOpcode.pull8
  s1.setP (pulledStatus v)

/-- PHA IMP, 0x48 (R210). -/
def execPha (s : State) : Host.Outcome State Fault Refusal :=
  .next (s.pastOpcode.push8 s.a)

/-- PHP IMP, 0x08 (R211). -/
def execPhp (s : State) : Host.Outcome State Fault Refusal :=
  .next (s.pastOpcode.push8 (pushedStatus s.p))

/-- PLA IMP, 0x68 (R212). -/
def execPla (s : State) : Host.Outcome State Fault Refusal :=
  .next (pullAccumulator s)

/-- PLP IMP, 0x28 (R213). -/
def execPlp (s : State) : Host.Outcome State Fault Refusal :=
  .next (pullStatus s)

/-- CLC IMP, 0x18 (R214). -/
def execClc (s : State) : Host.Outcome State Fault Refusal :=
  .next (flagForm .c false s)

/-- CLD IMP, 0xD8 (R215). -/
def execCld (s : State) : Host.Outcome State Fault Refusal :=
  .next (flagForm .d false s)

/-- CLI IMP, 0x58 (R216). -/
def execCli (s : State) : Host.Outcome State Fault Refusal :=
  .next (flagForm .i false s)

/-- CLV IMP, 0xB8 (R217). -/
def execClv (s : State) : Host.Outcome State Fault Refusal :=
  .next (flagForm .v false s)

/-- SEC IMP, 0x38 (R218). -/
def execSec (s : State) : Host.Outcome State Fault Refusal :=
  .next (flagForm .c true s)

/-- SED IMP, 0xF8 (R219). -/
def execSed (s : State) : Host.Outcome State Fault Refusal :=
  .next (flagForm .d true s)

/-- SEI IMP, 0x78 (R220). -/
def execSei (s : State) : Host.Outcome State Fault Refusal :=
  .next (flagForm .i true s)

/-- BRK IMP, 0x00 (R221). -/
def execBrk (s : State) : Host.Outcome State Fault Refusal :=
  .next (s.pastOpcode.halt)

/-- NOP IMP, 0xEA (R222). -/
def execNop (s : State) : Host.Outcome State Fault Refusal :=
  .next (s.pastOpcode)

end Sys2Proof.Machine
end

