-- ==== Sys2Proof/Machine/Dispatch.lean ====
section
/-! DEFINITION. One arm per row of the instruction table, each one direct call of that row's meaning. -/

namespace Sys2Proof.Machine

def exec (i : Instr) (s : State) : Host.Outcome State Fault Refusal :=
  match i with
  | .brk => Sys2Proof.Machine.execBrk s
  | .oraIzx zp8 => Sys2Proof.Machine.execOraIzx zp8 s
  | .oraZp zp8 => Sys2Proof.Machine.execOraZp zp8 s
  | .aslZp zp8 => Sys2Proof.Machine.execAslZp zp8 s
  | .php => Sys2Proof.Machine.execPhp s
  | .oraImm imm8 => Sys2Proof.Machine.execOraImm imm8 s
  | .aslAcc => Sys2Proof.Machine.execAslAcc s
  | .oraAbs abs16 => Sys2Proof.Machine.execOraAbs abs16 s
  | .aslAbs abs16 => Sys2Proof.Machine.execAslAbs abs16 s
  | .bpl rel8 => Sys2Proof.Machine.execBpl rel8 s
  | .oraIzy zp8 => Sys2Proof.Machine.execOraIzy zp8 s
  | .oraZpx zp8 => Sys2Proof.Machine.execOraZpx zp8 s
  | .aslZpx zp8 => Sys2Proof.Machine.execAslZpx zp8 s
  | .clc => Sys2Proof.Machine.execClc s
  | .oraAby abs16 => Sys2Proof.Machine.execOraAby abs16 s
  | .oraAbx abs16 => Sys2Proof.Machine.execOraAbx abs16 s
  | .aslAbx abs16 => Sys2Proof.Machine.execAslAbx abs16 s
  | .jsr abs16 => Sys2Proof.Machine.execJsr abs16 s
  | .andIzx zp8 => Sys2Proof.Machine.execAndIzx zp8 s
  | .bitZp zp8 => Sys2Proof.Machine.execBitZp zp8 s
  | .andZp zp8 => Sys2Proof.Machine.execAndZp zp8 s
  | .rolZp zp8 => Sys2Proof.Machine.execRolZp zp8 s
  | .plp => Sys2Proof.Machine.execPlp s
  | .andImm imm8 => Sys2Proof.Machine.execAndImm imm8 s
  | .rolAcc => Sys2Proof.Machine.execRolAcc s
  | .bitAbs abs16 => Sys2Proof.Machine.execBitAbs abs16 s
  | .andAbs abs16 => Sys2Proof.Machine.execAndAbs abs16 s
  | .rolAbs abs16 => Sys2Proof.Machine.execRolAbs abs16 s
  | .bmi rel8 => Sys2Proof.Machine.execBmi rel8 s
  | .andIzy zp8 => Sys2Proof.Machine.execAndIzy zp8 s
  | .andZpx zp8 => Sys2Proof.Machine.execAndZpx zp8 s
  | .rolZpx zp8 => Sys2Proof.Machine.execRolZpx zp8 s
  | .sec => Sys2Proof.Machine.execSec s
  | .andAby abs16 => Sys2Proof.Machine.execAndAby abs16 s
  | .andAbx abs16 => Sys2Proof.Machine.execAndAbx abs16 s
  | .rolAbx abs16 => Sys2Proof.Machine.execRolAbx abs16 s
  | .rti => Sys2Proof.Machine.execRti s
  | .eorIzx zp8 => Sys2Proof.Machine.execEorIzx zp8 s
  | .eorZp zp8 => Sys2Proof.Machine.execEorZp zp8 s
  | .lsrZp zp8 => Sys2Proof.Machine.execLsrZp zp8 s
  | .pha => Sys2Proof.Machine.execPha s
  | .eorImm imm8 => Sys2Proof.Machine.execEorImm imm8 s
  | .lsrAcc => Sys2Proof.Machine.execLsrAcc s
  | .jmpAbs abs16 => Sys2Proof.Machine.execJmpAbs abs16 s
  | .eorAbs abs16 => Sys2Proof.Machine.execEorAbs abs16 s
  | .lsrAbs abs16 => Sys2Proof.Machine.execLsrAbs abs16 s
  | .bvc rel8 => Sys2Proof.Machine.execBvc rel8 s
  | .eorIzy zp8 => Sys2Proof.Machine.execEorIzy zp8 s
  | .eorZpx zp8 => Sys2Proof.Machine.execEorZpx zp8 s
  | .lsrZpx zp8 => Sys2Proof.Machine.execLsrZpx zp8 s
  | .cli => Sys2Proof.Machine.execCli s
  | .eorAby abs16 => Sys2Proof.Machine.execEorAby abs16 s
  | .eorAbx abs16 => Sys2Proof.Machine.execEorAbx abs16 s
  | .lsrAbx abs16 => Sys2Proof.Machine.execLsrAbx abs16 s
  | .rts => Sys2Proof.Machine.execRts s
  | .adcIzx zp8 => Sys2Proof.Machine.execAdcIzx zp8 s
  | .adcZp zp8 => Sys2Proof.Machine.execAdcZp zp8 s
  | .rorZp zp8 => Sys2Proof.Machine.execRorZp zp8 s
  | .pla => Sys2Proof.Machine.execPla s
  | .adcImm imm8 => Sys2Proof.Machine.execAdcImm imm8 s
  | .rorAcc => Sys2Proof.Machine.execRorAcc s
  | .jmpInd ptr16 => Sys2Proof.Machine.execJmpInd ptr16 s
  | .adcAbs abs16 => Sys2Proof.Machine.execAdcAbs abs16 s
  | .rorAbs abs16 => Sys2Proof.Machine.execRorAbs abs16 s
  | .bvs rel8 => Sys2Proof.Machine.execBvs rel8 s
  | .adcIzy zp8 => Sys2Proof.Machine.execAdcIzy zp8 s
  | .adcZpx zp8 => Sys2Proof.Machine.execAdcZpx zp8 s
  | .rorZpx zp8 => Sys2Proof.Machine.execRorZpx zp8 s
  | .sei => Sys2Proof.Machine.execSei s
  | .adcAby abs16 => Sys2Proof.Machine.execAdcAby abs16 s
  | .adcAbx abs16 => Sys2Proof.Machine.execAdcAbx abs16 s
  | .rorAbx abs16 => Sys2Proof.Machine.execRorAbx abs16 s
  | .staIzx zp8 => Sys2Proof.Machine.execStaIzx zp8 s
  | .styZp zp8 => Sys2Proof.Machine.execStyZp zp8 s
  | .staZp zp8 => Sys2Proof.Machine.execStaZp zp8 s
  | .stxZp zp8 => Sys2Proof.Machine.execStxZp zp8 s
  | .dey => Sys2Proof.Machine.execDey s
  | .txa => Sys2Proof.Machine.execTxa s
  | .styAbs abs16 => Sys2Proof.Machine.execStyAbs abs16 s
  | .staAbs abs16 => Sys2Proof.Machine.execStaAbs abs16 s
  | .stxAbs abs16 => Sys2Proof.Machine.execStxAbs abs16 s
  | .bcc rel8 => Sys2Proof.Machine.execBcc rel8 s
  | .staIzy zp8 => Sys2Proof.Machine.execStaIzy zp8 s
  | .styZpx zp8 => Sys2Proof.Machine.execStyZpx zp8 s
  | .staZpx zp8 => Sys2Proof.Machine.execStaZpx zp8 s
  | .stxZpy zp8 => Sys2Proof.Machine.execStxZpy zp8 s
  | .tya => Sys2Proof.Machine.execTya s
  | .staAby abs16 => Sys2Proof.Machine.execStaAby abs16 s
  | .txs => Sys2Proof.Machine.execTxs s
  | .staAbx abs16 => Sys2Proof.Machine.execStaAbx abs16 s
  | .ldyImm imm8 => Sys2Proof.Machine.execLdyImm imm8 s
  | .ldaIzx zp8 => Sys2Proof.Machine.execLdaIzx zp8 s
  | .ldxImm imm8 => Sys2Proof.Machine.execLdxImm imm8 s
  | .ldyZp zp8 => Sys2Proof.Machine.execLdyZp zp8 s
  | .ldaZp zp8 => Sys2Proof.Machine.execLdaZp zp8 s
  | .ldxZp zp8 => Sys2Proof.Machine.execLdxZp zp8 s
  | .tay => Sys2Proof.Machine.execTay s
  | .ldaImm imm8 => Sys2Proof.Machine.execLdaImm imm8 s
  | .tax => Sys2Proof.Machine.execTax s
  | .ldyAbs abs16 => Sys2Proof.Machine.execLdyAbs abs16 s
  | .ldaAbs abs16 => Sys2Proof.Machine.execLdaAbs abs16 s
  | .ldxAbs abs16 => Sys2Proof.Machine.execLdxAbs abs16 s
  | .bcs rel8 => Sys2Proof.Machine.execBcs rel8 s
  | .ldaIzy zp8 => Sys2Proof.Machine.execLdaIzy zp8 s
  | .ldyZpx zp8 => Sys2Proof.Machine.execLdyZpx zp8 s
  | .ldaZpx zp8 => Sys2Proof.Machine.execLdaZpx zp8 s
  | .ldxZpy zp8 => Sys2Proof.Machine.execLdxZpy zp8 s
  | .clv => Sys2Proof.Machine.execClv s
  | .ldaAby abs16 => Sys2Proof.Machine.execLdaAby abs16 s
  | .tsx => Sys2Proof.Machine.execTsx s
  | .ldyAbx abs16 => Sys2Proof.Machine.execLdyAbx abs16 s
  | .ldaAbx abs16 => Sys2Proof.Machine.execLdaAbx abs16 s
  | .ldxAby abs16 => Sys2Proof.Machine.execLdxAby abs16 s
  | .cpyImm imm8 => Sys2Proof.Machine.execCpyImm imm8 s
  | .cmpIzx zp8 => Sys2Proof.Machine.execCmpIzx zp8 s
  | .cpyZp zp8 => Sys2Proof.Machine.execCpyZp zp8 s
  | .cmpZp zp8 => Sys2Proof.Machine.execCmpZp zp8 s
  | .decZp zp8 => Sys2Proof.Machine.execDecZp zp8 s
  | .iny => Sys2Proof.Machine.execIny s
  | .cmpImm imm8 => Sys2Proof.Machine.execCmpImm imm8 s
  | .dex => Sys2Proof.Machine.execDex s
  | .cpyAbs abs16 => Sys2Proof.Machine.execCpyAbs abs16 s
  | .cmpAbs abs16 => Sys2Proof.Machine.execCmpAbs abs16 s
  | .decAbs abs16 => Sys2Proof.Machine.execDecAbs abs16 s
  | .bne rel8 => Sys2Proof.Machine.execBne rel8 s
  | .cmpIzy zp8 => Sys2Proof.Machine.execCmpIzy zp8 s
  | .cmpZpx zp8 => Sys2Proof.Machine.execCmpZpx zp8 s
  | .decZpx zp8 => Sys2Proof.Machine.execDecZpx zp8 s
  | .cld => Sys2Proof.Machine.execCld s
  | .cmpAby abs16 => Sys2Proof.Machine.execCmpAby abs16 s
  | .cmpAbx abs16 => Sys2Proof.Machine.execCmpAbx abs16 s
  | .decAbx abs16 => Sys2Proof.Machine.execDecAbx abs16 s
  | .cpxImm imm8 => Sys2Proof.Machine.execCpxImm imm8 s
  | .sbcIzx zp8 => Sys2Proof.Machine.execSbcIzx zp8 s
  | .cpxZp zp8 => Sys2Proof.Machine.execCpxZp zp8 s
  | .sbcZp zp8 => Sys2Proof.Machine.execSbcZp zp8 s
  | .incZp zp8 => Sys2Proof.Machine.execIncZp zp8 s
  | .inx => Sys2Proof.Machine.execInx s
  | .sbcImm imm8 => Sys2Proof.Machine.execSbcImm imm8 s
  | .nop => Sys2Proof.Machine.execNop s
  | .cpxAbs abs16 => Sys2Proof.Machine.execCpxAbs abs16 s
  | .sbcAbs abs16 => Sys2Proof.Machine.execSbcAbs abs16 s
  | .incAbs abs16 => Sys2Proof.Machine.execIncAbs abs16 s
  | .beq rel8 => Sys2Proof.Machine.execBeq rel8 s
  | .sbcIzy zp8 => Sys2Proof.Machine.execSbcIzy zp8 s
  | .sbcZpx zp8 => Sys2Proof.Machine.execSbcZpx zp8 s
  | .incZpx zp8 => Sys2Proof.Machine.execIncZpx zp8 s
  | .sed => Sys2Proof.Machine.execSed s
  | .sbcAby abs16 => Sys2Proof.Machine.execSbcAby abs16 s
  | .sbcAbx abs16 => Sys2Proof.Machine.execSbcAbx abs16 s
  | .incAbx abs16 => Sys2Proof.Machine.execIncAbx abs16 s

end Sys2Proof.Machine
end

