-- ==== Sys2Proof/Machine/HostInterface.lean ====
section
/-! DEFINITION. The host's side of the core: the interface events, the host hook and host accesses
(60_exceptions.md R230, R233, R245 to R249, 70_reset_and_hazards.md R260 to R264, 20_memory.md R56). -/

namespace Sys2Proof.Machine

/-- The value of a register as the host reads it (R248). -/
def State.hostRegister (s : State) : HostRegister → Nat
  | .a => s.a.toNat
  | .x => s.x.toNat
  | .y => s.y.toNat
  | .sp => s.sp.toNat
  | .pc => s.pc.toNat
  | .p => s.p.toNat

/-- A host register write: the value reduced to the register's width, no side effect, no bit of P forced (R248). -/
def State.setHostRegister (s : State) (r : HostRegister) (v : Nat) : State :=
  match r with
  | .a => s.setA (BitVec.ofNat 8 v)
  | .x => s.setX (BitVec.ofNat 8 v)
  | .y => s.setY (BitVec.ofNat 8 v)
  | .sp => s.setSp (BitVec.ofNat 8 v)
  | .pc => s.setPc (BitVec.ofNat 16 v)
  | .p => s.setP (BitVec.ofNat 8 v)

/-- One host access (R56, R248). A read changes nothing but the report. -/
def State.hostAccess (s : State) (what : HostAccess) : State :=
  match what with
  | .readMem addr => s.setReport (.byteRead (s.read addr))
  | .writeMem addr v => (s.write addr v).setReport .accepted
  | .readReg r => s.setReport (.registerRead (s.hostRegister r))
  | .writeReg r v => (s.setHostRegister r v).setReport .accepted

/-- Host accesses in order. -/
def State.hostAccesses : State → List HostAccess → State
  | s, [] => s
  | s, what :: rest => State.hostAccesses (s.hostAccess what) rest

/-- POWER_ON creates the state (R29, R260). The host's own coming events and what it was told are not the core's. -/
def State.powerOnEvent (s : State) : State :=
  { s with
    a := 0x00
    x := 0x00
    y := 0x00
    sp := Config.powerOnSp
    p := Config.powerOnP
    pc := 0x0000
    mem := []
    run := .idle
    armed := false
    hook := [] }

/-- LOAD(image): refused whole if too long, else the copy first and the reset vector second; no register and not
the run state (R233, R261, D11). -/
def State.loadEvent (s : State) (image : List Byte) : State :=
  if image.length > Config.maxImage then s.setReport (.loadOverflow image.length)
  else
    (((s.writeBytes Config.loadBase image).write16 Config.resetVector Config.loadBase).setArmed false).setReport
      .accepted

/-- RUN(hook): accepted in IDLE and HALTED with `armed = 1`, else refused with no state change (R27, R249, R264). -/
def State.runEvent (s : State) (hook : List HookReply) : State :=
  match s.run with
  | .idle | .halted =>
    if s.armed then ((s.setRun .running).setHook hook).setReport .accepted else s.setReport .runRefused
  | .running | .faulted _ => s.setReport .runRefused

/-- An interface event that arrives while the run state is not RUNNING (R245). -/
def State.hostEvent (s : State) (e : HostEvent) : State :=
  match e with
  | .powerOn => s.powerOnEvent.setReport .accepted
  | .load image => s.loadEvent image
  | .reset => s.resetEvent.setReport .accepted
  | .run hook => s.runEvent hook
  | .access what => s.hostAccess what

/-- The state after the hook's answer (R245, R246). -/
def State.hookAnswer (s : State) (answer : HookAnswer) : State :=
  match answer with
  | .resume => s
  | .stop => s.setRun .idle
  | .stopAndReset => s.resetEvent
  | .powerOn => s.powerOnEvent

/-- The hook call after a retired instruction: the host's accesses in order, then its answer. With no reply left
the hook is the identity and the run goes on (R93, R246, log entry 7). -/
def State.callHook (s : State) : State :=
  match s.hook with
  | [] => s
  | r :: rest => ((s.setHook rest).hostAccesses r.accesses).hookAnswer r.answer

/-- A step outside RUNNING: the engine performs none (R27, R90); the next pending host event is taken, and with
none pending the model stops by name (log entry 9). -/
def hostStep (s : State) : Host.Outcome State Fault Refusal :=
  match s.pending with
  | e :: rest => .next ((s.setPending rest).hostEvent e)
  | [] =>
    match s.run with
    | .faulted cause => .fault cause
    | .halted => .refused .engineHalted
    | .idle | .running => .refused .engineIdle

end Sys2Proof.Machine
end

