-- ==== Sys2Proof/Machine/Engine.lean ====
section
/-! DEFINITION. The engine's step: fetch, decode, execute, call the host hook (40_addressing_and_step.md R90 to
R93), and the placing of one instruction where the next fetch reads it. -/

namespace Sys2Proof.Machine

/-- After the instruction: the hook is called if the step neither halted nor faulted (R93, R246). -/
def State.afterInstruction (t : State) : State := if t.run = .running then t.callHook else t

/-- A step in RUNNING (R90). An opcode byte with no entry raises IllegalOpcode with the byte and its address, PC
already advanced (R231). Three bytes are fetched, so the decoder never finds them too few. -/
def engineStep (s : State) : Host.Outcome State Fault Refusal :=
  match decode s.fetchBytes with
  | .error _ => .next (s.pastOpcode.raise (.illegalOpcode (s.read s.pc) s.pc))
  | .ok (i, _) =>
    match exec i s with
    | .next t => .next t.afterInstruction
    | .fault cause => .fault cause
    | .refused why => .refused why

/-- The instruction's bytes at PC, and the run state RUNNING, as LOAD, RESET and RUN leave it (log entry 2). -/
def State.placeInstruction (s : State) (nbits w : Nat) : State :=
  (s.writeBytes s.pc (tableBytes nbits w)).setRun .running

end Sys2Proof.Machine
end

