-- ==== Sys2Proof/Machine/Step.lean ====
section
/-! DEFINITION. One step of the whole machine: the engine in RUNNING, the host otherwise (10_state.md R27). -/

namespace Sys2Proof.Machine

/-- One step. -/
def step (s : State) : Host.Outcome State Fault Refusal :=
  if s.run = .running then engineStep s else hostStep s

/-- `s` with the instruction of bits `w` placed where the next step fetches (log entry 2). -/
def State.withFetchWord (s : State) (nbits w : Nat) : State := s.placeInstruction nbits w

end Sys2Proof.Machine
end

