-- ==== Sys2Proof/Safety.lean ====
section
/-! DEFINITION. What claims about the core speak of: the operand of an instruction, the illegal opcode bytes, and
what a good state is. -/

namespace Sys2Proof

open Sys2Proof.Machine

/-- The operand of an instruction by its resolver tag (30_encoding.md R72). The operand byte of a branch and the
pointer of JMP Indirect are no resolver operand (R104). -/
def Instr.operand : Instr → Operand
  | .brk => .noneAddressing
  | .oraIzx zp8 => .izx zp8
  | .oraZp zp8 => .zp zp8
  | .aslZp zp8 => .zp zp8
  | .php => .noneAddressing
  | .oraImm imm8 => .imm imm8
  | .aslAcc => .noneAddressing
  | .oraAbs abs16 => .abs abs16
  | .aslAbs abs16 => .abs abs16
  | .bpl _ => .noneAddressing
  | .oraIzy zp8 => .izy zp8
  | .oraZpx zp8 => .zpx zp8
  | .aslZpx zp8 => .zpx zp8
  | .clc => .noneAddressing
  | .oraAby abs16 => .aby abs16
  | .oraAbx abs16 => .abx abs16
  | .aslAbx abs16 => .abx abs16
  | .jsr abs16 => .abs abs16
  | .andIzx zp8 => .izx zp8
  | .bitZp zp8 => .zp zp8
  | .andZp zp8 => .zp zp8
  | .rolZp zp8 => .zp zp8
  | .plp => .noneAddressing
  | .andImm imm8 => .imm imm8
  | .rolAcc => .noneAddressing
  | .bitAbs abs16 => .abs abs16
  | .andAbs abs16 => .abs abs16
  | .rolAbs abs16 => .abs abs16
  | .bmi _ => .noneAddressing
  | .andIzy zp8 => .izy zp8
  | .andZpx zp8 => .zpx zp8
  | .rolZpx zp8 => .zpx zp8
  | .sec => .noneAddressing
  | .andAby abs16 => .aby abs16
  | .andAbx abs16 => .abx abs16
  | .rolAbx abs16 => .abx abs16
  | .rti => .noneAddressing
  | .eorIzx zp8 => .izx zp8
  | .eorZp zp8 => .zp zp8
  | .lsrZp zp8 => .zp zp8
  | .pha => .noneAddressing
  | .eorImm imm8 => .imm imm8
  | .lsrAcc => .noneAddressing
  | .jmpAbs abs16 => .abs abs16
  | .eorAbs abs16 => .abs abs16
  | .lsrAbs abs16 => .abs abs16
  | .bvc _ => .noneAddressing
  | .eorIzy zp8 => .izy zp8
  | .eorZpx zp8 => .zpx zp8
  | .lsrZpx zp8 => .zpx zp8
  | .cli => .noneAddressing
  | .eorAby abs16 => .aby abs16
  | .eorAbx abs16 => .abx abs16
  | .lsrAbx abs16 => .abx abs16
  | .rts => .noneAddressing
  | .adcIzx zp8 => .izx zp8
  | .adcZp zp8 => .zp zp8
  | .rorZp zp8 => .zp zp8
  | .pla => .noneAddressing
  | .adcImm imm8 => .imm imm8
  | .rorAcc => .noneAddressing
  | .jmpInd _ => .noneAddressing
  | .adcAbs abs16 => .abs abs16
  | .rorAbs abs16 => .abs abs16
  | .bvs _ => .noneAddressing
  | .adcIzy zp8 => .izy zp8
  | .adcZpx zp8 => .zpx zp8
  | .rorZpx zp8 => .zpx zp8
  | .sei => .noneAddressing
  | .adcAby abs16 => .aby abs16
  | .adcAbx abs16 => .abx abs16
  | .rorAbx abs16 => .abx abs16
  | .staIzx zp8 => .izx zp8
  | .styZp zp8 => .zp zp8
  | .staZp zp8 => .zp zp8
  | .stxZp zp8 => .zp zp8
  | .dey => .noneAddressing
  | .txa => .noneAddressing
  | .styAbs abs16 => .abs abs16
  | .staAbs abs16 => .abs abs16
  | .stxAbs abs16 => .abs abs16
  | .bcc _ => .noneAddressing
  | .staIzy zp8 => .izy zp8
  | .styZpx zp8 => .zpx zp8
  | .staZpx zp8 => .zpx zp8
  | .stxZpy zp8 => .zpy zp8
  | .tya => .noneAddressing
  | .staAby abs16 => .aby abs16
  | .txs => .noneAddressing
  | .staAbx abs16 => .abx abs16
  | .ldyImm imm8 => .imm imm8
  | .ldaIzx zp8 => .izx zp8
  | .ldxImm imm8 => .imm imm8
  | .ldyZp zp8 => .zp zp8
  | .ldaZp zp8 => .zp zp8
  | .ldxZp zp8 => .zp zp8
  | .tay => .noneAddressing
  | .ldaImm imm8 => .imm imm8
  | .tax => .noneAddressing
  | .ldyAbs abs16 => .abs abs16
  | .ldaAbs abs16 => .abs abs16
  | .ldxAbs abs16 => .abs abs16
  | .bcs _ => .noneAddressing
  | .ldaIzy zp8 => .izy zp8
  | .ldyZpx zp8 => .zpx zp8
  | .ldaZpx zp8 => .zpx zp8
  | .ldxZpy zp8 => .zpy zp8
  | .clv => .noneAddressing
  | .ldaAby abs16 => .aby abs16
  | .tsx => .noneAddressing
  | .ldyAbx abs16 => .abx abs16
  | .ldaAbx abs16 => .abx abs16
  | .ldxAby abs16 => .aby abs16
  | .cpyImm imm8 => .imm imm8
  | .cmpIzx zp8 => .izx zp8
  | .cpyZp zp8 => .zp zp8
  | .cmpZp zp8 => .zp zp8
  | .decZp zp8 => .zp zp8
  | .iny => .noneAddressing
  | .cmpImm imm8 => .imm imm8
  | .dex => .noneAddressing
  | .cpyAbs abs16 => .abs abs16
  | .cmpAbs abs16 => .abs abs16
  | .decAbs abs16 => .abs abs16
  | .bne _ => .noneAddressing
  | .cmpIzy zp8 => .izy zp8
  | .cmpZpx zp8 => .zpx zp8
  | .decZpx zp8 => .zpx zp8
  | .cld => .noneAddressing
  | .cmpAby abs16 => .aby abs16
  | .cmpAbx abs16 => .abx abs16
  | .decAbx abs16 => .abx abs16
  | .cpxImm imm8 => .imm imm8
  | .sbcIzx zp8 => .izx zp8
  | .cpxZp zp8 => .zp zp8
  | .sbcZp zp8 => .zp zp8
  | .incZp zp8 => .zp zp8
  | .inx => .noneAddressing
  | .sbcImm imm8 => .imm imm8
  | .nop => .noneAddressing
  | .cpxAbs abs16 => .abs abs16
  | .sbcAbs abs16 => .abs abs16
  | .incAbs abs16 => .abs abs16
  | .beq _ => .noneAddressing
  | .sbcIzy zp8 => .izy zp8
  | .sbcZpx zp8 => .zpx zp8
  | .incZpx zp8 => .zpx zp8
  | .sed => .noneAddressing
  | .sbcAby abs16 => .aby abs16
  | .sbcAbx abs16 => .abx abs16
  | .incAbx abs16 => .abx abs16

/-- The 105 opcode bytes with no table entry, as R77 lists them. -/
def illegalBytes : List Byte :=
  [0x02, 0x03, 0x04, 0x07, 0x0B, 0x0C, 0x0F,
   0x12, 0x13, 0x14, 0x17, 0x1A, 0x1B, 0x1C, 0x1F,
   0x22, 0x23, 0x27, 0x2B, 0x2F,
   0x32, 0x33, 0x34, 0x37, 0x3A, 0x3B, 0x3C, 0x3F,
   0x42, 0x43, 0x44, 0x47, 0x4B, 0x4F,
   0x52, 0x53, 0x54, 0x57, 0x5A, 0x5B, 0x5C, 0x5F,
   0x62, 0x63, 0x64, 0x67, 0x6B, 0x6F,
   0x72, 0x73, 0x74, 0x77, 0x7A, 0x7B, 0x7C, 0x7F,
   0x80, 0x82, 0x83, 0x87, 0x89, 0x8B, 0x8F,
   0x92, 0x93, 0x97, 0x9B, 0x9C, 0x9E, 0x9F,
   0xA3, 0xA7, 0xAB, 0xAF,
   0xB2, 0xB3, 0xB7, 0xBB, 0xBF,
   0xC2, 0xC3, 0xC7, 0xCB, 0xCF,
   0xD2, 0xD3, 0xD4, 0xD7, 0xDA, 0xDB, 0xDC, 0xDF,
   0xE2, 0xE3, 0xE7, 0xEB, 0xEF,
   0xF2, 0xF3, 0xF4, 0xF7, 0xFA, 0xFB, 0xFC, 0xFF]

namespace Machine

/-- A fault that a run can meet: IllegalOpcode on a byte that has no entry (60_exceptions.md R231, R232). -/
def Fault.reachable : Fault → Bool
  | .illegalOpcode opcode _ => illegalBytes.contains opcode
  | .invalidAddressingMode => false

/-- A good state: memory in its canonical form, the engine running only when a RESET has armed it
(10_state.md R27, 70_reset_and_hazards.md R264), and in FAULT only for an illegal opcode byte. -/
def State.good (s : State) : Bool :=
  Memory.wf s.mem &&
  (match s.run with
    | .running => s.armed
    | .faulted cause => cause.reachable
    | .idle | .halted => true)

end Machine

end Sys2Proof
end

