-- ==== Sys2Proof/Certificates/Slice0/Obligations.lean ====
section
/-! DEFINITION. The statements for the provers. The first part gives the words they use, in the spec's own terms
(numbers of 0 to 255 and 0 to 65535, bit numbers of P as in 10_state.md R16); the second part the statements. -/

namespace Sys2Proof.Claims

open Sys2Proof.Machine

/-- The byte of memory at an address. -/
def byteAt (s : State) (n : Nat) : Byte := Memory.read s.mem n

/-- The number whose low byte is at `lo` and whose high byte is at `hi`. -/
def wordAt (s : State) (lo hi : Nat) : Nat := 256 * (byteAt s hi).toNat + (byteAt s lo).toNat

/-- The effective address of an operand, as a number, in a state whose PC is at the opcode byte (R95 to R103). -/
def effectiveAddress (s : State) : Operand → Nat
  | .imm _ => (s.pc.toNat + 1) % 65536
  | .zp zp8 => zp8.toNat
  | .zpx zp8 => (zp8.toNat + s.x.toNat) % 256
  | .zpy zp8 => (zp8.toNat + s.y.toNat) % 256
  | .abs abs16 => abs16.toNat
  | .abx abs16 => (abs16.toNat + s.x.toNat) % 65536
  | .aby abs16 => (abs16.toNat + s.y.toNat) % 65536
  | .izx zp8 => wordAt s ((zp8.toNat + s.x.toNat) % 256) ((zp8.toNat + s.x.toNat + 1) % 256)
  | .izy zp8 => (wordAt s zp8.toNat ((zp8.toNat + 1) % 256) + s.y.toNat) % 65536
  | .noneAddressing => 0

/-- The byte after the opcode byte (R73). -/
def operandByteAtPc (s : State) : Nat := (byteAt s ((s.pc.toNat + 1) % 65536)).toNat

/-- The word after the opcode byte, low byte first (R44, R73). -/
def operandWordAtPc (s : State) : Nat := wordAt s ((s.pc.toNat + 1) % 65536) ((s.pc.toNat + 2) % 65536)

/-- The effective address of each format, read from memory at PC as R95 to R103 write it. -/
def addressAtPc (s : State) : Format → Nat
  | .imm => (s.pc.toNat + 1) % 65536
  | .zp => operandByteAtPc s
  | .zpx => (operandByteAtPc s + s.x.toNat) % 256
  | .zpy => (operandByteAtPc s + s.y.toNat) % 256
  | .abs => operandWordAtPc s
  | .abx => (operandWordAtPc s + s.x.toNat) % 65536
  | .aby => (operandWordAtPc s + s.y.toNat) % 65536
  | .izx => wordAt s ((operandByteAtPc s + s.x.toNat) % 256) ((operandByteAtPc s + s.x.toNat + 1) % 256)
  | .izy => (wordAt s (operandByteAtPc s) ((operandByteAtPc s + 1) % 256) + s.y.toNat) % 65536
  | .imp | .acc | .rel | .ind => 0

/-- The operand byte M (R94): the data of an Immediate, else the byte at the effective address. -/
def operandByte (s : State) : Operand → Byte
  | .imm imm8 => imm8
  | m => byteAt s (effectiveAddress s m)

/-- `p'` is `p` with exactly the listed bits replaced. -/
def FlagsAfter (p p' : Byte) (changed : List (Nat × Bool)) : Prop :=
  ∀ k, k < 8 → p'.getLsbD k = (changed.lookup k).getD (p.getLsbD k)

/-- Z and N from a byte (R110). -/
def zn (v : Byte) : List (Nat × Bool) := [(1, decide (v = 0)), (7, v.getLsbD 7)]

/-- The carry in, 0 or 1. -/
def carryIn (s : State) : Nat := if s.p.getLsbD 0 then 1 else 0

/-- A signed sum that does not fit in a byte (R150). -/
def outOfSignedByte (z : Int) : Bool := decide (z < -128 ∨ 127 < z)

/-- The address after the instruction, for one that does not write PC (R92). -/
def pcAfter (s : State) (i : Instr) : Word := s.pc + BitVec.ofNat 16 i.length

/-- The opcode byte of an instruction. -/
def opcodeOf (i : Instr) : Byte := (encode i).headD 0

/-- The opcode map of 30_encoding.md R76, mnemonic by mnemonic. -/
def opcodeMap : List (Mnemonic × List (Format × Byte)) :=
  [(.adcM, [(.imm, 0x69), (.zp, 0x65), (.zpx, 0x75), (.abs, 0x6D), (.abx, 0x7D), (.aby, 0x79), (.izx, 0x61),
     (.izy, 0x71)]),
   (.andM, [(.imm, 0x29), (.zp, 0x25), (.zpx, 0x35), (.abs, 0x2D), (.abx, 0x3D), (.aby, 0x39), (.izx, 0x21),
     (.izy, 0x31)]),
   (.aslM, [(.acc, 0x0A), (.zp, 0x06), (.zpx, 0x16), (.abs, 0x0E), (.abx, 0x1E)]),
   (.bccM, [(.rel, 0x90)]),
   (.bcsM, [(.rel, 0xB0)]),
   (.beqM, [(.rel, 0xF0)]),
   (.bitM, [(.zp, 0x24), (.abs, 0x2C)]),
   (.bmiM, [(.rel, 0x30)]),
   (.bneM, [(.rel, 0xD0)]),
   (.bplM, [(.rel, 0x10)]),
   (.brkM, [(.imp, 0x00)]),
   (.bvcM, [(.rel, 0x50)]),
   (.bvsM, [(.rel, 0x70)]),
   (.clcM, [(.imp, 0x18)]),
   (.cldM, [(.imp, 0xD8)]),
   (.cliM, [(.imp, 0x58)]),
   (.clvM, [(.imp, 0xB8)]),
   (.cmpM, [(.imm, 0xC9), (.zp, 0xC5), (.zpx, 0xD5), (.abs, 0xCD), (.abx, 0xDD), (.aby, 0xD9), (.izx, 0xC1),
     (.izy, 0xD1)]),
   (.cpxM, [(.imm, 0xE0), (.zp, 0xE4), (.abs, 0xEC)]),
   (.cpyM, [(.imm, 0xC0), (.zp, 0xC4), (.abs, 0xCC)]),
   (.decM, [(.zp, 0xC6), (.zpx, 0xD6), (.abs, 0xCE), (.abx, 0xDE)]),
   (.dexM, [(.imp, 0xCA)]),
   (.deyM, [(.imp, 0x88)]),
   (.eorM, [(.imm, 0x49), (.zp, 0x45), (.zpx, 0x55), (.abs, 0x4D), (.abx, 0x5D), (.aby, 0x59), (.izx, 0x41),
     (.izy, 0x51)]),
   (.incM, [(.zp, 0xE6), (.zpx, 0xF6), (.abs, 0xEE), (.abx, 0xFE)]),
   (.inxM, [(.imp, 0xE8)]),
   (.inyM, [(.imp, 0xC8)]),
   (.jmpM, [(.abs, 0x4C), (.ind, 0x6C)]),
   (.jsrM, [(.abs, 0x20)]),
   (.ldaM, [(.imm, 0xA9), (.zp, 0xA5), (.zpx, 0xB5), (.abs, 0xAD), (.abx, 0xBD), (.aby, 0xB9), (.izx, 0xA1),
     (.izy, 0xB1)]),
   (.ldxM, [(.imm, 0xA2), (.zp, 0xA6), (.zpy, 0xB6), (.abs, 0xAE), (.aby, 0xBE)]),
   (.ldyM, [(.imm, 0xA0), (.zp, 0xA4), (.zpx, 0xB4), (.abs, 0xAC), (.abx, 0xBC)]),
   (.lsrM, [(.acc, 0x4A), (.zp, 0x46), (.zpx, 0x56), (.abs, 0x4E), (.abx, 0x5E)]),
   (.nopM, [(.imp, 0xEA)]),
   (.oraM, [(.imm, 0x09), (.zp, 0x05), (.zpx, 0x15), (.abs, 0x0D), (.abx, 0x1D), (.aby, 0x19), (.izx, 0x01),
     (.izy, 0x11)]),
   (.phaM, [(.imp, 0x48)]),
   (.phpM, [(.imp, 0x08)]),
   (.plaM, [(.imp, 0x68)]),
   (.plpM, [(.imp, 0x28)]),
   (.rolM, [(.acc, 0x2A), (.zp, 0x26), (.zpx, 0x36), (.abs, 0x2E), (.abx, 0x3E)]),
   (.rorM, [(.acc, 0x6A), (.zp, 0x66), (.zpx, 0x76), (.abs, 0x6E), (.abx, 0x7E)]),
   (.rtiM, [(.imp, 0x40)]),
   (.rtsM, [(.imp, 0x60)]),
   (.sbcM, [(.imm, 0xE9), (.zp, 0xE5), (.zpx, 0xF5), (.abs, 0xED), (.abx, 0xFD), (.aby, 0xF9), (.izx, 0xE1),
     (.izy, 0xF1)]),
   (.secM, [(.imp, 0x38)]),
   (.sedM, [(.imp, 0xF8)]),
   (.seiM, [(.imp, 0x78)]),
   (.staM, [(.zp, 0x85), (.zpx, 0x95), (.abs, 0x8D), (.abx, 0x9D), (.aby, 0x99), (.izx, 0x81), (.izy, 0x91)]),
   (.stxM, [(.zp, 0x86), (.zpy, 0x96), (.abs, 0x8E)]),
   (.styM, [(.zp, 0x84), (.zpx, 0x94), (.abs, 0x8C)]),
   (.taxM, [(.imp, 0xAA)]),
   (.tayM, [(.imp, 0xA8)]),
   (.tsxM, [(.imp, 0xBA)]),
   (.txaM, [(.imp, 0x8A)]),
   (.txsM, [(.imp, 0x9A)]),
   (.tyaM, [(.imp, 0x98)])]

/-- The instruction is a row of the opcode map: its format with its opcode byte stands there for its mnemonic. -/
def InOpcodeMap (i : Instr) : Prop :=
  ∃ rows, (i.mnemonic, rows) ∈ opcodeMap ∧ (i.format, opcodeOf i) ∈ rows

/-- The same state but for the listed bits of P. -/
def SameBut (bits : List Nat) (s s' : State) : Prop :=
  { s with p := 0 } = { s' with p := 0 } ∧ ∀ k, k < 8 → k ∉ bits → s.p.getLsbD k = s'.p.getLsbD k

/-- A compare's register (R155 to R157). -/
def comparedRegister (s : State) : Mnemonic → Option Byte
  | .cmpM => some s.a
  | .cpxM => some s.x
  | .cpyM => some s.y
  | _ => none

/-- The result of a logic instruction (R152 to R154). -/
def logicResult (a m : Byte) : Mnemonic → Option Byte
  | .andM => some (a &&& m)
  | .eorM => some (a ^^^ m)
  | .oraM => some (a ||| m)
  | _ => none

/-- The result and the carry out of a shift or rotate of the number `v` with carry in `c` (R170 to R173). -/
def shiftResult (v c : Nat) : Mnemonic → Option (Nat × Bool)
  | .aslM => some (2 * v % 256, decide (128 ≤ v))
  | .lsrM => some (v / 2, decide (v % 2 = 1))
  | .rolM => some ((2 * v + c) % 256, decide (128 ≤ v))
  | .rorM => some (v / 2 + 128 * c, decide (v % 2 = 1))
  | _ => none

/-- The bit of P a branch tests and the value it branches on (R191 to R198). -/
def branchTest : Mnemonic → Option (Nat × Bool)
  | .bccM => some (0, false)
  | .bcsM => some (0, true)
  | .beqM => some (1, true)
  | .bmiM => some (7, true)
  | .bneM => some (1, false)
  | .bplM => some (7, false)
  | .bvcM => some (6, false)
  | .bvsM => some (6, true)
  | _ => none

/-- The bit of P a flag instruction writes and what it writes (R214 to R220). -/
def flagWritten : Mnemonic → Option (Nat × Bool)
  | .clcM => some (0, false)
  | .cldM => some (3, false)
  | .cliM => some (2, false)
  | .clvM => some (6, false)
  | .secM => some (0, true)
  | .sedM => some (3, true)
  | .seiM => some (2, true)
  | _ => none

/-- The mnemonics that write the byte at their effective address (R133 to R135, R180). -/
def storingMnemonics : List Mnemonic :=
  [.staM, .stxM, .styM, .aslM, .lsrM, .rolM, .rorM, .incM, .decM]

/-- The addresses an instruction stores to, by the functions its meaning uses: the resolver for the stores and the
read-modify-writes (none in the accumulator form), the stack address for the pushes. -/
def storedAddresses (i : Instr) (s : State) : List Word :=
  if i.mnemonic ∈ storingMnemonics then
    match i.operand.resolve s.pastOpcode with
    | .ok ea => [ea]
    | .error _ => []
  else if i.mnemonic = .phaM ∨ i.mnemonic = .phpM then [stackAddr s.sp]
  else if i.mnemonic = .jsrM then [stackAddr s.sp, stackAddr (s.sp - 1)]
  else []

/-- R10: the instructions that write A. -/
def writesA (i : Instr) : Bool :=
  [Mnemonic.ldaM, .txaM, .tyaM, .plaM, .adcM, .sbcM, .andM, .eorM, .oraM].contains i.mnemonic ||
    decide (i.format = .acc)

/-- R10: the instructions that write X. -/
def writesX (i : Instr) : Bool := [Mnemonic.ldxM, .taxM, .tsxM, .inxM, .dexM].contains i.mnemonic

/-- R10: the instructions that write Y. -/
def writesY (i : Instr) : Bool := [Mnemonic.ldyM, .tayM, .inyM, .deyM].contains i.mnemonic

/-- R14: the instructions that write SP. -/
def writesSp (i : Instr) : Bool :=
  [Mnemonic.phaM, .phpM, .plaM, .plpM, .jsrM, .rtsM, .rtiM, .txsM].contains i.mnemonic

/-- R92: the instructions that may write PC (a branch does when taken). -/
def writesPc (i : Instr) : Bool :=
  [Mnemonic.jmpM, .jsrM, .rtsM, .rtiM].contains i.mnemonic || decide (i.format = .rel)

/-- R18, R24: the instructions that write Z and N. -/
def zeroNegativeWriters : List Mnemonic :=
  [.ldaM, .ldxM, .ldyM, .taxM, .tayM, .txaM, .tyaM, .tsxM, .adcM, .sbcM, .andM, .eorM, .oraM, .aslM, .lsrM, .rolM,
   .rorM, .incM, .decM, .inxM, .inyM, .dexM, .deyM, .cmpM, .cpxM, .cpyM, .bitM, .plaM, .plpM, .rtiM]

/-- R17 to R24: the instructions that write a bit of P. -/
def flagWriters : Nat → List Mnemonic
  | 0 => [.adcM, .sbcM, .cmpM, .cpxM, .cpyM, .aslM, .lsrM, .rolM, .rorM, .clcM, .secM, .plpM, .rtiM]
  | 1 => zeroNegativeWriters
  | 2 => [.cliM, .seiM, .plpM, .rtiM]
  | 3 => [.cldM, .sedM, .plpM, .rtiM]
  | 4 => [.plpM, .rtiM]
  | 5 => [.plpM, .rtiM]
  | 6 => [.adcM, .sbcM, .bitM, .clvM, .plpM, .rtiM]
  | _ => zeroNegativeWriters

end Sys2Proof.Claims

open Sys2Proof Sys2Proof.Machine Sys2Proof.Claims

/-! ### Encoding -/

/-- Decoding the encoding of an instruction, whatever follows it, gives the instruction back with every operand
value, and leaves what follows (R70, R71, R73, R76). -/
def Obligations.DecodeOfEncodeIsTheInstruction : Prop :=
  ∀ (i : Instr) (rest : List Byte), decode (encode i ++ rest) = .ok (i, rest)

/-- What the decoder accepts is the encoding of the instruction it gives, so no word has two meanings and no bit
of an instruction is dropped (R70, R71, R73). -/
def Obligations.EncodeOfDecodeIsTheBytes : Prop :=
  ∀ (bytes : List Byte) (i : Instr) (rest : List Byte), decode bytes = .ok (i, rest) → bytes = encode i ++ rest

/-- Words of the spec's own examples decode to the instructions they stand for (R95, R103, R133, R200, R201, R221). -/
def Obligations.SpecExampleWordsDecode : Prop :=
  decode [0xA9, 0x05] = .ok (.ldaImm 0x05, []) ∧
  decode [0xB1, 0x86] = .ok (.ldaIzy 0x86, []) ∧
  decode [0x8D, 0x00, 0x02] = .ok (.staAbs 0x0200, []) ∧
  decode [0x6C, 0xFF, 0x30] = .ok (.jmpInd 0x30FF, []) ∧
  decode [0x20, 0x10, 0x80, 0x00] = .ok (.jsr 0x8010, [0x00]) ∧
  decode [0x00] = .ok (.brk, [])

/-- The instructions are exactly the 151 rows, of 56 mnemonics, of the opcode map (R75, R76). The spec
takes the map from general knowledge by its decision D2; the model follows it as written (log entry 3). -/
def Obligations.InstructionsAreTheOpcodeMap : Prop :=
  (∀ i : Instr, InOpcodeMap i) ∧
  (∀ m rows f b, (m, rows) ∈ opcodeMap → (f, b) ∈ rows → ∃ i : Instr, i.mnemonic = m ∧ i.format = f ∧ opcodeOf i = b) ∧
  (opcodeMap.map fun r => r.2.length).sum = 151 ∧ opcodeMap.length = 56

/-- The 105 listed bytes are refused by name, and every other byte starts an instruction of at most three bytes
(R75, R77). -/
def Obligations.ExactlyTheListedBytesAreIllegal : Prop :=
  illegalBytes.length = 105 ∧
  ∀ (b : Byte) (rest : List Byte),
    (b ∈ illegalBytes → decode (b :: rest) = .error (.illegalOpcode b)) ∧
    (b ∉ illegalBytes → ∀ b1 b2, ∃ i left, decode (b :: b1 :: b2 :: rest) = .ok (i, left) ∧ opcodeOf i = b)

/-! ### The step -/

/-- When the bytes at PC decode to an instruction, a step in RUNNING is `exec` of that instruction; after it, if
the machine is still running, the host hook is called once (R90, R93, R246). How the hook acts is the model's choice:
with no reply left it is the identity hook (log entry 7), else the host's accesses are made in order and then its
answer is taken (log entry 5). -/
def Obligations.StepRunsTheDecodedInstruction : Prop :=
  ∀ (s : State) (i : Instr) (rest : List Byte), s.run = .running →
    decode [byteAt s s.pc.toNat, byteAt s ((s.pc.toNat + 1) % 65536), byteAt s ((s.pc.toNat + 2) % 65536)]
      = .ok (i, rest) →
    ∃ t, exec i s = .next t ∧
      step s = .next (if t.run = .running then
        match t.hook with
        | [] => t
        | r :: replies => (({ t with hook := replies } : State).hostAccesses r.accesses).hookAnswer r.answer
        else t)

/-- The instruction decoded at PC is the bytes in memory from PC on, the addresses taken modulo 65536 (R12, R73). -/
def Obligations.FetchedInstructionIsTheBytesAtPc : Prop :=
  ∀ (s : State) (i : Instr) (rest : List Byte), decode s.fetchBytes = .ok (i, rest) →
    ∀ k, k < i.length → (encode i)[k]? = some (byteAt s ((s.pc.toNat + k) % 65536))

/-- Each of the 256 byte values has a defined outcome as an opcode in RUNNING (R231): the 105 listed bytes raise
IllegalOpcode (FAULT with the byte and its address, PC one past it, nothing else changed, no hook call: R230, R231),
0x00 halts (PC one past it, nothing else changed, no hook call: R221, R236), and the other 150 execute: whatever the
host answers, they leave the engine neither halted nor faulted (R246), and under the identity hook running. That the
empty list of replies is the identity hook is the model's choice (log entry 7). -/
def Obligations.EveryOpcodeByteHasADefinedOutcome : Prop :=
  ∀ s : State, s.run = .running →
    (byteAt s s.pc.toNat ∈ illegalBytes → step s = .next { s with
      pc := s.pc + 1
      run := .faulted (.illegalOpcode (byteAt s s.pc.toNat) s.pc) }) ∧
    (byteAt s s.pc.toNat = 0x00 → step s = .next { s with pc := s.pc + 1, run := .halted }) ∧
    (byteAt s s.pc.toNat ∉ illegalBytes → byteAt s s.pc.toNat ≠ 0x00 →
      ∃ t, step s = .next t ∧ (t.run = .running ∨ t.run = .idle) ∧ (s.hook = [] → t.run = .running))

/-- Outside RUNNING the engine performs no step; with no host event pending the model stops, by the name of the
run state (R27, R90; how the model stops is its own choice, log entry 9). -/
def Obligations.NoStepOutsideRunning : Prop :=
  ∀ s : State, s.pending = [] →
    (s.run = .idle → step s = .refused .engineIdle) ∧
    (s.run = .halted → step s = .refused .engineHalted) ∧
    (∀ cause, s.run = .faulted cause → step s = .fault cause)

/-! ### The resolver, memory and the stack -/

/-- The resolver's effective address of each memory tag, with every wrap, and its error on NoneAddressing (R95 to
R104). `pastOpcode` puts PC at the first operand byte. -/
def Obligations.ResolverGivesTheEffectiveAddress : Prop :=
  ∀ (m : Operand) (s : State),
    (m ≠ .noneAddressing → ∃ ea : Word, m.resolve s.pastOpcode = .ok ea ∧ ea.toNat = effectiveAddress s m) ∧
    (m = .noneAddressing → m.resolve s.pastOpcode = .error .invalidAddressingMode)

/-- The address the resolver gives the instruction at PC is the one its format makes of the operand bytes in memory
after the opcode byte (R95 to R103). -/
def Obligations.ResolvedAddressComesFromTheBytesAtPc : Prop :=
  ∀ (s : State) (i : Instr) (rest : List Byte), decode s.fetchBytes = .ok (i, rest) →
    i.operand ≠ .noneAddressing →
    ∃ ea : Word, i.operand.resolve s.pastOpcode = .ok ea ∧ ea.toNat = addressAtPc s i.format

/-- A store is seen by the next fetch: a fetched byte is the stored one where the addresses agree, else the old one
(R54). -/
def Obligations.StoresAreSeenByTheNextFetch : Prop :=
  ∀ (s : State) (addr : Word) (v : Byte) (k : Nat), k < 3 →
    (s.write addr v).fetchBytes[k]? =
      some (if (s.pc.toNat + k) % 65536 = addr.toNat then v else byteAt s ((s.pc.toNat + k) % 65536))

/-- A byte write changes the byte at its address, no other byte and nothing else; a byte read gives it (R40, R41). -/
def Obligations.ByteWriteChangesOneByte : Prop :=
  ∀ (s : State) (addr : Word) (v : Byte),
    (∃ m, s.write addr v = { s with mem := m } ∧
      ∀ n, Memory.read m n = if n = addr.toNat then v else byteAt s n) ∧
    s.read addr = byteAt s addr.toNat

/-- The 16-bit accessors are little-endian and wrap at the top of memory (R42, R43, R44). -/
def Obligations.WordAccessIsLittleEndian : Prop :=
  ∀ (s : State) (addr w : Word),
    (s.read16 addr).toNat = wordAt s addr.toNat ((addr.toNat + 1) % 65536) ∧
    (∃ m, s.write16 addr w = { s with mem := m } ∧
      ∀ n, (Memory.read m n).toNat =
        if n = addr.toNat then w.toNat % 256
        else if n = (addr.toNat + 1) % 65536 then w.toNat / 256
        else (byteAt s n).toNat)

/-- A push stores at 0x0100 + SP and then decrements SP; a pull increments SP and then reads; both wrap in the
stack page (R105, R106). -/
def Obligations.PushAndPullUseTheStackPage : Prop :=
  ∀ (s : State) (v : Byte),
    (∃ m, s.push8 v = { s with mem := m, sp := s.sp - 1 } ∧
      ∀ n, Memory.read m n = if n = 0x100 + s.sp.toNat then v else byteAt s n) ∧
    s.pull8 = (byteAt s (0x100 + (s.sp.toNat + 1) % 256), { s with sp := s.sp + 1 })

/-- Stack round-trip: a pushed word is pulled back and SP returns to its value, for every word and every SP, the
wrapping ones included; the high byte lies where SP pointed, the low byte below it; a pull takes the low byte first,
whatever the stack holds (R107, R108). -/
def Obligations.PushedWordIsPulledBack : Prop :=
  ∀ (s : State) (w : Word),
    (s.push16 w).pull16 = (w, { s with mem := (s.push16 w).mem }) ∧
    (s.push16 w).sp = s.sp - 2 ∧ s.pull16.2 = { s with sp := s.sp + 2 } ∧
    s.pull16.1.toNat = wordAt s (0x100 + (s.sp.toNat + 1) % 256) (0x100 + (s.sp.toNat + 2) % 256) ∧
    ∀ n, (byteAt (s.push16 w) n).toNat =
      if n = 0x100 + s.sp.toNat then w.toNat / 256
      else if n = 0x100 + (s.sp.toNat + 255) % 256 then w.toNat % 256
      else (byteAt s n).toNat

/-! ### Loads, stores, transfers -/

/-- LDA, LDX, LDY in every form: the register takes M, Z and N follow it, every other flag, register and byte is
unchanged, PC moves past the instruction (R130, R131, R132). -/
def Obligations.LoadsFillTheRegister : Prop :=
  ∀ (i : Instr) (s : State),
    (i.mnemonic = .ldaM → InOpcodeMap i ∧ ∃ p, FlagsAfter s.p p (zn (operandByte s i.operand)) ∧
      exec i s = .next { s with a := operandByte s i.operand, p := p, pc := pcAfter s i }) ∧
    (i.mnemonic = .ldxM → InOpcodeMap i ∧ ∃ p, FlagsAfter s.p p (zn (operandByte s i.operand)) ∧
      exec i s = .next { s with x := operandByte s i.operand, p := p, pc := pcAfter s i }) ∧
    (i.mnemonic = .ldyM → InOpcodeMap i ∧ ∃ p, FlagsAfter s.p p (zn (operandByte s i.operand)) ∧
      exec i s = .next { s with y := operandByte s i.operand, p := p, pc := pcAfter s i })

/-- STA, STX, STY in every form: the byte at the effective address becomes the register, every other byte, every
register and every flag is unchanged, PC moves past the instruction (R133, R134, R135). -/
def Obligations.StoresWriteTheRegister : Prop :=
  ∀ (i : Instr) (s : State) (v : Byte),
    (i.mnemonic = .staM ∧ v = s.a ∨ i.mnemonic = .stxM ∧ v = s.x ∨ i.mnemonic = .styM ∧ v = s.y) →
    InOpcodeMap i ∧ ∃ m, exec i s = .next { s with mem := m, pc := pcAfter s i } ∧
      ∀ n, Memory.read m n = if n = effectiveAddress s i.operand then v else byteAt s n

/-- TAX, TAY, TXA, TYA, TSX: the destination takes the source, Z and N follow it; TXS: SP takes X and no flag
changes; nothing else changes (R136 to R141). -/
def Obligations.TransfersCopyTheRegister : Prop :=
  ∀ s : State,
    (∃ p, FlagsAfter s.p p (zn s.a) ∧ exec .tax s = .next { s with x := s.a, p := p, pc := s.pc + 1 }) ∧
    (∃ p, FlagsAfter s.p p (zn s.a) ∧ exec .tay s = .next { s with y := s.a, p := p, pc := s.pc + 1 }) ∧
    (∃ p, FlagsAfter s.p p (zn s.x) ∧ exec .txa s = .next { s with a := s.x, p := p, pc := s.pc + 1 }) ∧
    (∃ p, FlagsAfter s.p p (zn s.y) ∧ exec .tya s = .next { s with a := s.y, p := p, pc := s.pc + 1 }) ∧
    (∃ p, FlagsAfter s.p p (zn s.sp) ∧ exec .tsx s = .next { s with x := s.sp, p := p, pc := s.pc + 1 }) ∧
    exec .txs s = .next { s with sp := s.x, pc := s.pc + 1 } ∧
    (encode .tax, encode .tay, encode .txa, encode .tya, encode .tsx, encode .txs)
      = ([0xAA], [0xA8], [0x8A], [0x98], [0xBA], [0x9A])

/-! ### Arithmetic, logic, compare, bit test -/

/-- ADC in every form: A takes the sum of A, M and Carry modulo 256; Carry is set exactly when the sum exceeds
255, Overflow exactly when the signed sum lies outside -128 to 127, Z and N follow the result; D plays no part;
nothing else changes (R150). -/
def Obligations.AdcAddsWithCarry : Prop :=
  ∀ (i : Instr) (s : State), i.mnemonic = .adcM →
    let m := operandByte s i.operand
    let sum := s.a.toNat + m.toNat + carryIn s
    InOpcodeMap i ∧ ∃ r p, exec i s = .next { s with a := r, p := p, pc := pcAfter s i } ∧
      r.toNat = sum % 256 ∧
      FlagsAfter s.p p ([(0, decide (255 < sum)), (6, outOfSignedByte (s.a.toInt + m.toInt + carryIn s))] ++ zn r)

/-- SBC in every form: A takes A - M - (1 - Carry) modulo 256; the new Carry is 1 exactly when that difference is
not negative, Overflow exactly when the signed difference lies outside -128 to 127; nothing else changes (R151). -/
def Obligations.SbcSubtractsWithBorrow : Prop :=
  ∀ (i : Instr) (s : State), i.mnemonic = .sbcM →
    let m := operandByte s i.operand
    let borrow : Int := 1 - (carryIn s : Int)
    let diff : Int := (s.a.toNat : Int) - m.toNat - borrow
    InOpcodeMap i ∧ ∃ r p, exec i s = .next { s with a := r, p := p, pc := pcAfter s i } ∧
      (r.toNat : Int) = diff % 256 ∧
      FlagsAfter s.p p ([(0, decide (0 ≤ diff)), (6, outOfSignedByte (s.a.toInt - m.toInt - borrow))] ++ zn r)

/-- AND, EOR, ORA in every form: A takes the bitwise result, Z and N follow it, C and V and all else are unchanged
(R152, R153, R154). -/
def Obligations.LogicCombinesTheAccumulator : Prop :=
  ∀ (i : Instr) (s : State) (r : Byte), logicResult s.a (operandByte s i.operand) i.mnemonic = some r →
    InOpcodeMap i ∧ ∃ p, FlagsAfter s.p p (zn r) ∧ exec i s = .next { s with a := r, p := p, pc := pcAfter s i }

/-- CMP, CPX, CPY in every form: Carry exactly when M does not exceed the register, Zero exactly when they are
equal, Negative bit 7 of the wrapped difference; the old Carry, V, the register and memory play no part and are
unchanged (R155, R156, R157, R160). -/
def Obligations.ComparesSetCarryZeroNegative : Prop :=
  ∀ (i : Instr) (s : State) (r : Byte), comparedRegister s i.mnemonic = some r →
    let m := operandByte s i.operand
    InOpcodeMap i ∧ ∃ p, exec i s = .next { s with p := p, pc := pcAfter s i } ∧
      FlagsAfter s.p p [(0, decide (m.toNat ≤ r.toNat)), (1, decide (r = m)),
        (7, decide (128 ≤ (r.toNat + 256 - m.toNat) % 256))]

/-- BIT in both forms: Zero exactly when A and M have no bit in common, Negative and Overflow are bits 7 and 6 of
M; C, A, memory and all else are unchanged (R158). -/
def Obligations.BitTestsMemoryAgainstA : Prop :=
  ∀ (i : Instr) (s : State), i.mnemonic = .bitM →
    let m := operandByte s i.operand
    InOpcodeMap i ∧ ∃ p, exec i s = .next { s with p := p, pc := pcAfter s i } ∧
      FlagsAfter s.p p [(1, decide (∀ k : Fin 8, ¬(s.a.getLsbD k = true ∧ m.getLsbD k = true))), (7, m.getLsbD 7),
        (6, m.getLsbD 6)]

/-! ### Shifts, increments -/

/-- ASL, LSR, ROL, ROR in the accumulator form: A takes the result, Carry the bit shifted out, Z and N follow the
result, memory and all else are unchanged (R170 to R173, R180). -/
def Obligations.ShiftsOfTheAccumulator : Prop :=
  ∀ (i : Instr) (s : State) (w : Nat) (out : Bool), i.format = .acc →
    shiftResult s.a.toNat (carryIn s) i.mnemonic = some (w, out) →
    InOpcodeMap i ∧ ∃ r p, exec i s = .next { s with a := r, p := p, pc := s.pc + 1 } ∧ r.toNat = w ∧
      FlagsAfter s.p p ((0, out) :: zn r)

/-- ASL, LSR, ROL, ROR in every memory form: the byte at the effective address takes the result, Carry the bit
shifted out, Z and N follow the result; every other byte, A and all else are unchanged (R170 to R173, R180). -/
def Obligations.ShiftsOfMemory : Prop :=
  ∀ (i : Instr) (s : State) (w : Nat) (out : Bool), i.format ≠ .acc →
    shiftResult (byteAt s (effectiveAddress s i.operand)).toNat (carryIn s) i.mnemonic = some (w, out) →
    InOpcodeMap i ∧ ∃ m r p, exec i s = .next { s with mem := m, p := p, pc := pcAfter s i } ∧ r.toNat = w ∧
      FlagsAfter s.p p ((0, out) :: zn r) ∧
      ∀ n, Memory.read m n = if n = effectiveAddress s i.operand then r else byteAt s n

/-- INC and DEC in every form: the byte at the effective address goes up or down by one modulo 256, Z and N follow
it; C, V, every other byte and all else are unchanged (R174, R175, R180). -/
def Obligations.IncAndDecOfMemory : Prop :=
  ∀ (i : Instr) (s : State) (d : Nat), (i.mnemonic = .incM ∧ d = 1 ∨ i.mnemonic = .decM ∧ d = 255) →
    InOpcodeMap i ∧ ∃ m r p, exec i s = .next { s with mem := m, p := p, pc := pcAfter s i } ∧
      r.toNat = ((byteAt s (effectiveAddress s i.operand)).toNat + d) % 256 ∧ FlagsAfter s.p p (zn r) ∧
      ∀ n, Memory.read m n = if n = effectiveAddress s i.operand then r else byteAt s n

/-- INX, INY, DEX, DEY: the index register goes up or down by one modulo 256, Z and N follow it; C, V and all else
are unchanged (R176 to R179). -/
def Obligations.IndexIncrements : Prop :=
  ∀ s : State,
    (∃ r p, exec .inx s = .next { s with x := r, p := p, pc := s.pc + 1 } ∧
      r.toNat = (s.x.toNat + 1) % 256 ∧ FlagsAfter s.p p (zn r)) ∧
    (∃ r p, exec .iny s = .next { s with y := r, p := p, pc := s.pc + 1 } ∧
      r.toNat = (s.y.toNat + 1) % 256 ∧ FlagsAfter s.p p (zn r)) ∧
    (∃ r p, exec .dex s = .next { s with x := r, p := p, pc := s.pc + 1 } ∧
      r.toNat = (s.x.toNat + 255) % 256 ∧ FlagsAfter s.p p (zn r)) ∧
    (∃ r p, exec .dey s = .next { s with y := r, p := p, pc := s.pc + 1 } ∧
      r.toNat = (s.y.toNat + 255) % 256 ∧ FlagsAfter s.p p (zn r)) ∧
    (encode .inx, encode .iny, encode .dex, encode .dey) = ([0xE8], [0xC8], [0xCA], [0x88])

/-! ### Control transfer -/

/-- The eight branches: taken, PC is the address after the branch plus the signed offset modulo 65536; not taken,
PC is the address after the branch; nothing else changes (R190 to R198). -/
def Obligations.BranchesFollowTheirFlag : Prop :=
  ∀ (i : Instr) (s : State) (k : Nat) (want : Bool) (op off : Byte),
    branchTest i.mnemonic = some (k, want) → encode i = [op, off] →
    InOpcodeMap i ∧ ∃ pc : Word, exec i s = .next { s with pc := pc } ∧
      (pc.toNat : Int) =
        if s.p.getLsbD k = want then ((s.pc.toNat : Int) + 2 + off.toInt) % 65536
        else ((s.pc.toNat : Int) + 2) % 65536

/-- JMP Absolute sets PC to the operand word; JMP Indirect takes the low byte at the pointer and the high byte
from the next address of the same page; nothing else changes (R199, R200). -/
def Obligations.JumpsSetPc : Prop :=
  ∀ (s : State) (w : Word),
    exec (.jmpAbs w) s = .next { s with pc := w } ∧
    (∃ pc : Word, exec (.jmpInd w) s = .next { s with pc := pc } ∧
      pc.toNat = wordAt s w.toNat (w.toNat / 256 * 256 + (w.toNat + 1) % 256)) ∧
    opcodeOf (.jmpAbs w) = 0x4C ∧ opcodeOf (.jmpInd w) = 0x6C

/-- JSR pushes the address of its own last byte, high byte first, and jumps; SP goes down by two; every byte but
the two pushed, every flag and every other register is unchanged (R201). -/
def Obligations.JsrPushesItsLastByteAddress : Prop :=
  ∀ (s : State) (target : Word),
    opcodeOf (.jsr target) = 0x20 ∧
    ∃ m, exec (.jsr target) s = .next { s with mem := m, sp := s.sp - 2, pc := target } ∧
      ∀ n, (Memory.read m n).toNat =
        if n = 0x100 + s.sp.toNat then (s.pc.toNat + 2) % 65536 / 256
        else if n = 0x100 + (s.sp.toNat + 255) % 256 then (s.pc.toNat + 2) % 65536 % 256
        else (byteAt s n).toNat

/-- RTS pulls a word, low byte first, and continues one past it; SP goes up by two; nothing else changes (R202). -/
def Obligations.RtsReturnsPastThePulledWord : Prop :=
  ∀ s : State,
    encode .rts = [0x60] ∧
    ∃ pc : Word, exec .rts s = .next { s with sp := s.sp + 2, pc := pc } ∧
      pc.toNat = (wordAt s (0x100 + (s.sp.toNat + 1) % 256) (0x100 + (s.sp.toNat + 2) % 256) + 1) % 65536

/-- RTI pulls P with bits 4 and 5 cleared, then PC with nothing added; SP goes up by three; nothing else changes
(R203). -/
def Obligations.RtiRestoresStatusAndPc : Prop :=
  ∀ s : State,
    encode .rti = [0x40] ∧
    ∃ (p : Byte) (pc : Word), exec .rti s = .next { s with p := p, sp := s.sp + 3, pc := pc } ∧
      (∀ k, k < 8 → p.getLsbD k =
        (decide (k ≠ 4 ∧ k ≠ 5) && (byteAt s (0x100 + (s.sp.toNat + 1) % 256)).getLsbD k)) ∧
      pc.toNat = wordAt s (0x100 + (s.sp.toNat + 2) % 256) (0x100 + (s.sp.toNat + 3) % 256)

/-! ### Stack, flags, BRK, NOP -/

/-- PHA pushes A and PHP pushes P with bits 4 and 5 set, P itself unchanged; every other byte and all else but SP
and PC is unchanged (R210, R211). -/
def Obligations.PushesStoreOneByte : Prop :=
  ∀ (i : Instr) (s : State) (v : Byte), (i = .pha ∧ v = s.a ∨ i = .php ∧ v = s.p ||| 0x30) →
    InOpcodeMap i ∧ ∃ m, exec i s = .next { s with mem := m, sp := s.sp - 1, pc := s.pc + 1 } ∧
      ∀ n, Memory.read m n = if n = 0x100 + s.sp.toNat then v else byteAt s n

/-- PLA pulls A and sets Z and N from it; PLP pulls P with bits 4 and 5 cleared; nothing else but SP and PC
changes (R212, R213). -/
def Obligations.PullsLoadOneByte : Prop :=
  ∀ s : State,
    let v := byteAt s (0x100 + (s.sp.toNat + 1) % 256)
    (∃ p, FlagsAfter s.p p (zn v) ∧
      exec .pla s = .next { s with a := v, p := p, sp := s.sp + 1, pc := s.pc + 1 }) ∧
    (∃ p, (∀ k, k < 8 → p.getLsbD k = (decide (k ≠ 4 ∧ k ≠ 5) && v.getLsbD k)) ∧
      exec .plp s = .next { s with p := p, sp := s.sp + 1, pc := s.pc + 1 }) ∧
    (encode .pla, encode .plp) = ([0x68], [0x28])

/-- CLC, CLD, CLI, CLV, SEC, SED, SEI write their one bit of P; the other seven, the registers and memory are
unchanged (R214 to R220). -/
def Obligations.FlagInstructionsWriteOneBit : Prop :=
  ∀ (i : Instr) (s : State) (k : Nat) (b : Bool), flagWritten i.mnemonic = some (k, b) →
    InOpcodeMap i ∧ ∃ p, FlagsAfter s.p p [(k, b)] ∧ exec i s = .next { s with p := p, pc := s.pc + 1 }

/-- BRK halts with PC one past its byte: nothing is pushed, no flag changes, no vector is read, and the hook is not
called (R221). NOP only moves PC, and the hook is called after it (R222). -/
def Obligations.BrkHaltsAndNopAdvances : Prop :=
  ∀ s : State,
    exec .brk s = .next { s with pc := s.pc + 1, run := .halted } ∧
    (s.run = .running → byteAt s s.pc.toNat = 0x00 → step s = .next { s with pc := s.pc + 1, run := .halted }) ∧
    exec .nop s = .next { s with pc := s.pc + 1 } ∧
    (s.run = .running → byteAt s s.pc.toNat = 0xEA →
      step s = .next (({ s with pc := s.pc + 1 } : State).callHook)) ∧
    (encode .brk, encode .nop) = ([0x00], [0xEA])

/-! ### Rules of the whole machine -/

/-- Every instruction, every form: each byte outside the addresses it stores to is unchanged (R46). -/
def Obligations.OnlyStoredBytesChange : Prop :=
  ∀ (i : Instr) (s t : State) (n : Nat), exec i s = .next t →
    n ∉ (storedAddresses i s).map BitVec.toNat → byteAt t n = byteAt s n

/-- A, X, Y and SP are written only by the instructions the spec lists for each (R10, R14). -/
def Obligations.RegistersHaveOnlyTheirListedWriters : Prop :=
  ∀ (i : Instr) (s t : State), exec i s = .next t →
    (writesA i = false → t.a = s.a) ∧ (writesX i = false → t.x = s.x) ∧
    (writesY i = false → t.y = s.y) ∧ (writesSp i = false → t.sp = s.sp)

/-- Each flag is written only by the instructions the spec lists for it (R17 to R24). -/
def Obligations.FlagsHaveOnlyTheirListedWriters : Prop :=
  ∀ (i : Instr) (s t : State) (k : Nat), exec i s = .next t → k < 8 → i.mnemonic ∉ flagWriters k →
    t.p.getLsbD k = s.p.getLsbD k

/-- Every instruction other than a jump, call, return or branch leaves PC at the next instruction in memory, as
does a branch that is not taken (R92). -/
def Obligations.PcAdvancesPastTheInstruction : Prop :=
  ∀ (i : Instr) (s : State),
    (writesPc i = false ∨ ∃ k want, branchTest i.mnemonic = some (k, want) ∧ s.p.getLsbD k ≠ want) →
    ∃ t, exec i s = .next t ∧ t.pc = pcAfter s i

/-- No instruction ends in a fault or a refusal, none raises InvalidAddressingMode or any other fault, only BRK
changes the run state, and none touches `armed` or the host's fields (R27, R232, R234). -/
def Obligations.NoInstructionFaults : Prop :=
  ∀ (i : Instr) (s : State), ∃ t, exec i s = .next t ∧
    (i ≠ .brk → t.run = s.run) ∧ (i = .brk → t.run = .halted) ∧
    t.armed = s.armed ∧ t.hook = s.hook ∧ t.pending = s.pending ∧ t.report = s.report

/-- No program can observe B or U: two running states that differ in those bits only, under the identity hook (the
empty list of replies, log entry 7), step
to states that differ in those bits only (R25). -/
def Obligations.BreakBitsAreUnobservable : Prop :=
  ∀ s s' : State, s.run = .running → s.hook = [] → SameBut [4, 5] s s' →
    ∃ t t', step s = .next t ∧ step s' = .next t' ∧ SameBut [4, 5] t t'

/-- I and D reach nothing but themselves through any instruction other than PHP: arithmetic is binary whatever D
holds and I masks nothing (R19, R20, R238). -/
def Obligations.InterruptAndDecimalBitsHaveNoFunction : Prop :=
  ∀ (i : Instr) (s s' : State), i ≠ .php → SameBut [2, 3] s s' →
    ∃ t t', exec i s = .next t ∧ exec i s' = .next t' ∧ SameBut [2, 3] t t'

/-- Every step from a good state, the host's events and the hook included, leaves a good state: memory canonical,
RUNNING only when armed, FAULT only for an illegal opcode byte (R27, R231, R232, R264). -/
def Obligations.EveryStepKeepsAGoodState : Prop :=
  ∀ s t : State, s.good = true → step s = .next t → t.good = true

/-- The reset state is good. -/
def Obligations.ResetStateIsGood : Prop := State.reset.good = true

/-! ### Power-on, load, reset, run, hook -/

/-- RESET taken in any run state but RUNNING: the registers and the run bookkeeping take their reset values, PC
comes from the reset vector, memory is unchanged (R262, R263). -/
def Obligations.ResetEventSetsTheResetValues : Prop :=
  ∀ (s : State) (rest : List HostEvent), s.run ≠ .running → s.pending = .reset :: rest →
    ∃ t, step s = .next t ∧ t.a = 0 ∧ t.x = 0 ∧ t.y = 0 ∧ t.sp.toNat = 0xFD ∧
      (∀ k, k < 8 → t.p.getLsbD k = decide (k = 2 ∨ k = 5)) ∧
      t.pc.toNat = wordAt s 0xFFFC 0xFFFD ∧ t.mem = s.mem ∧ t.run = .idle ∧ t.armed = true ∧
      t.hook = s.hook ∧ t.pending = rest

/-- The model's `State.reset` is what POWER_ON and then RESET leave of any state, but for the host's own fields
(R29; that no LOAD comes between is the model's choice, log entry 2). -/
def Obligations.ResetStateIsPowerOnThenReset : Prop :=
  ∀ s : State, s.powerOnEvent.resetEvent = { State.reset with pending := s.pending, report := s.report }

/-- POWER_ON: zero memory, A, X, Y, PC, IDLE, not armed; SP and P one of their two candidates each (R29, R260). -/
def Obligations.PowerOnCreatesTheState : Prop :=
  ∀ (s : State) (rest : List HostEvent), s.run ≠ .running → s.pending = .powerOn :: rest →
    ∃ t, step s = .next t ∧ t.a = 0 ∧ t.x = 0 ∧ t.y = 0 ∧ t.pc = 0 ∧ t.run = .idle ∧ t.armed = false ∧
      (t.sp = 0x00 ∨ t.sp = 0xFD) ∧ (t.p = 0x00 ∨ t.p = 0x24) ∧ (∀ n, byteAt t n = 0) ∧ t.pending = rest

/-- LOAD of an image of at most 0x8000 bytes: the image at 0x8000, then the reset vector 0x8000 over it; every
other byte, every register and the run state are unchanged, and the machine is no longer armed (R261). LOAD of a
longer image is refused whole: nothing changes, and the host is told the length (R233). -/
def Obligations.LoadWritesImageThenVector : Prop :=
  ∀ (s : State) (image : List Byte) (rest : List HostEvent), s.run ≠ .running → s.pending = .load image :: rest →
    (image.length ≤ 0x8000 →
      ∃ m, step s = .next { s with mem := m, armed := false, pending := rest, report := .accepted } ∧
        ∀ n, Memory.read m n =
          if n = 0xFFFC then 0x00
          else if n = 0xFFFD then 0x80
          else if 0x8000 ≤ n ∧ n < 0x8000 + image.length then image.getD (n - 0x8000) 0
          else byteAt s n) ∧
    (0x8000 < image.length → step s = .next { s with pending := rest, report := .loadOverflow image.length })

/-- RUN is accepted in IDLE and HALTED when armed, and sets RUNNING with PC and all else as they are; unarmed, or in
FAULT, it is refused with no change (R27, R249, R264). -/
def Obligations.RunNeedsAnArmedMachine : Prop :=
  ∀ (s : State) (replies : List HookReply) (rest : List HostEvent), s.pending = .run replies :: rest →
    ((s.run = .idle ∨ s.run = .halted) → s.armed = true →
      step s = .next { s with run := .running, hook := replies, pending := rest, report := .accepted }) ∧
    ((s.run = .idle ∨ s.run = .halted) → s.armed = false →
      step s = .next { s with pending := rest, report := .runRefused }) ∧
    (∀ cause, s.run = .faulted cause → step s = .next { s with pending := rest, report := .runRefused })

/-- LOAD, RESET, RUN, in that order, from any state that is not running, leave the engine RUNNING at 0x8000 with
the reset values, whatever the image (R261, R262, R264). -/
def Obligations.LoadResetRunStartsAtTheLoadBase : Prop :=
  ∀ (s : State) (image : List Byte) (replies : List HookReply) (rest : List HostEvent),
    s.run ≠ .running → image.length ≤ 0x8000 → s.pending = .load image :: .reset :: .run replies :: rest →
    ∃ t, core.run 3 s = .next t ∧ t.run = .running ∧ t.pc = 0x8000 ∧ t.a = 0 ∧ t.x = 0 ∧ t.y = 0 ∧
      t.sp = 0xFD ∧ t.p = 0x24 ∧ t.hook = replies ∧ t.pending = rest

/-- The hook is called once after a retired instruction: `resume` (the spec's continue) leaves the engine running
from the state the hook left, `stop` leaves IDLE with that state (R246), and a RESET may come together with a stop
(R245). The model's choice, no rule of the spec: a hook call is one reply of a list (log entry 7), the RESET acts
after the call's accesses (log entry 5), and a POWER_ON between two steps comes as the hook's answer, after the
accesses as well (log entries 5, 6). -/
def Obligations.HookAnswersEndOrContinueTheRun : Prop :=
  ∀ (s t : State) (i : Instr) (rest : List Byte) (r : HookReply) (replies : List HookReply),
    s.run = .running → s.hook = r :: replies → decode s.fetchBytes = .ok (i, rest) → i ≠ .brk →
    exec i s = .next t →
    let u := ({ t with hook := replies } : State).hostAccesses r.accesses
    u.run = .running ∧
    (r.answer = .resume → step s = .next u) ∧
    (r.answer = .stop → step s = .next { u with run := .idle }) ∧
    (r.answer = .stopAndReset → step s = .next u.resetEvent) ∧
    (r.answer = .powerOn → step s = .next u.powerOnEvent)

/-- Host accesses: outside RUNNING the next pending one is made (the list of pending events is the model's choice,
log entry 6); a write stores the value reduced to the width and
nothing else, a read tells the value and changes nothing (20_memory.md R56, 60_exceptions.md R248). Those of the
hook are in `StepRunsTheDecodedInstruction`. -/
def Obligations.HostAccessesHaveNoSideEffect : Prop :=
  ∀ (s : State) (addr : Word) (b : Byte) (v : Nat),
    (∀ (t : State) (what : HostAccess) (rest : List HostEvent), t.run ≠ .running → t.pending = .access what :: rest →
      step t = .next (({ t with pending := rest } : State).hostAccess what)) ∧
    s.hostAccess (.readMem addr) = { s with report := .byteRead (byteAt s addr.toNat) } ∧
    (∃ m, s.hostAccess (.writeMem addr b) = { s with mem := m, report := .accepted } ∧
      ∀ n, Memory.read m n = if n = addr.toNat then b else byteAt s n) ∧
    s.hostAccess (.writeReg .a v) = { s with a := BitVec.ofNat 8 v, report := .accepted } ∧
    s.hostAccess (.writeReg .x v) = { s with x := BitVec.ofNat 8 v, report := .accepted } ∧
    s.hostAccess (.writeReg .y v) = { s with y := BitVec.ofNat 8 v, report := .accepted } ∧
    s.hostAccess (.writeReg .sp v) = { s with sp := BitVec.ofNat 8 v, report := .accepted } ∧
    s.hostAccess (.writeReg .p v) = { s with p := BitVec.ofNat 8 v, report := .accepted } ∧
    s.hostAccess (.writeReg .pc v) = { s with pc := BitVec.ofNat 16 v, report := .accepted } ∧
    s.hostAccess (.readReg .a) = { s with report := .registerRead s.a.toNat } ∧
    s.hostAccess (.readReg .x) = { s with report := .registerRead s.x.toNat } ∧
    s.hostAccess (.readReg .y) = { s with report := .registerRead s.y.toNat } ∧
    s.hostAccess (.readReg .sp) = { s with report := .registerRead s.sp.toNat } ∧
    s.hostAccess (.readReg .pc) = { s with report := .registerRead s.pc.toNat } ∧
    s.hostAccess (.readReg .p) = { s with report := .registerRead s.p.toNat }

/-! ### Instructions together -/

/-- JSR followed at once by RTS continues after the JSR with SP as it was (R201, R202). -/
def Obligations.JsrThenRtsReturns : Prop :=
  ∀ (s : State) (target : Word), ∃ t u, exec (.jsr target) s = .next t ∧ exec .rts t = .next u ∧
    u.pc = s.pc + 3 ∧ u.sp = s.sp

/-- PHP followed by PLP restores C, Z, I, D, V, N and leaves B and U 0, whatever they were (R211, R213). -/
def Obligations.PhpThenPlpRestoresTheFlags : Prop :=
  ∀ s : State, ∃ t u, exec .php s = .next t ∧ exec .plp t = .next u ∧ u.sp = s.sp ∧
    ∀ k, k < 8 → u.p.getLsbD k = (decide (k ≠ 4 ∧ k ≠ 5) && s.p.getLsbD k)
end

