-- ==== Sys2Proof/Laws/Flags.lean ====
section
/-! SUPPORT. What writing a flag does to each bit of P (10_state.md R16, 40_addressing_and_step.md R110). -/

namespace Sys2Proof.Laws

open Sys2Proof.Machine

/-- `P.f <- b` writes its own bit and no other (R7). -/
@[simp] theorem getLsbD_putFlag (f : Flag) (b : Bool) (p : Byte) (k : Nat) :
    (putFlag f b p).getLsbD k = if k = f.bit then b else p.getLsbD k := by
  by_cases hk : k < 8
  · have : ∀ (f : Flag) (b : Bool) (k : Fin 8) (p : Byte),
        (putFlag f b p).getLsbD k = if (k : Nat) = f.bit then b else p.getLsbD k := by
      intro f b k p
      cases f <;> cases b <;> fin_cases k <;> simp [putFlag, Flag.bit]
    exact this f b ⟨k, hk⟩ p
  · have h8 : 8 ≤ k := by omega
    have hf : k ≠ f.bit := by cases f <;> simp [Flag.bit] <;> omega
    rw [if_neg hf, BitVec.getLsbD_of_ge _ _ h8, BitVec.getLsbD_of_ge _ _ h8]

/-- `SetZN(v)` writes Z and N and no other bit (R110). -/
@[simp] theorem getLsbD_setZN (v p : Byte) (k : Nat) :
    (setZN v p).getLsbD k = if k = 7 then v.getLsbD 7 else if k = 1 then decide (v = 0) else p.getLsbD k := by
  simp only [setZN, getLsbD_putFlag, Flag.bit]
  rfl

/-- Two bytes with the same eight bits are equal. -/
theorem byte_eq_of_bits (p q : Byte) (h : ∀ k, k < 8 → p.getLsbD k = q.getLsbD k) : p = q :=
  BitVec.eq_of_getLsbD_eq fun k hk => h k hk

end Sys2Proof.Laws
end

