-- ==== Sys2Proof/Laws/Memory.lean ====
section
/-! SUPPORT. Memory: a read after a write, and the canonical form, which every memory operation keeps
(20_memory.md R40, R41, R47). -/

namespace Sys2Proof.Laws

open Sys2Proof.Machine

/-- An address that no cell lists reads as an unlisted address. -/
theorem read_unlisted (m : Memory) (a : Nat) (h : ∀ c ∈ m, c.1 ≠ a) : Memory.read m a = unlistedByte := by
  induction m with
  | nil => rfl
  | cons c rest ih =>
    obtain ⟨b, w⟩ := c
    have hb : a ≠ b := fun e => h (b, w) (by simp) e.symm
    simpa [Memory.read, hb] using ih fun c hc => h c (by simp [hc])

theorem erase_lists_not (m : Memory) (a : Nat) : ∀ c ∈ Memory.erase m a, c.1 ≠ a := by
  intro c hc
  simpa [Memory.erase] using (List.mem_filter.mp hc).2

theorem read_erase (m : Memory) (a n : Nat) :
    Memory.read (Memory.erase m a) n = if n = a then unlistedByte else Memory.read m n := by
  by_cases hn : n = a
  · subst hn
    simpa using read_unlisted _ _ (erase_lists_not m n)
  · rw [if_neg hn]
    induction m with
    | nil => rfl
    | cons c rest ih =>
      obtain ⟨b, w⟩ := c
      by_cases hb : b = a
      · subst hb
        simpa [Memory.erase, Memory.read, hn] using ih
      · by_cases hnb : n = b
        · simp [Memory.erase, Memory.read, hb, hnb]
        · simpa [Memory.erase, Memory.read, hb, hnb] using ih

theorem read_insert (m : Memory) (a : Nat) (v : Byte) (n : Nat) (h : ∀ c ∈ m, c.1 ≠ a) :
    Memory.read (Memory.insert m a v) n = if n = a then v else Memory.read m n := by
  induction m with
  | nil => simp [Memory.insert, Memory.read]
  | cons c rest ih =>
    obtain ⟨b, w⟩ := c
    have hb : b ≠ a := h (b, w) (by simp)
    have ih := ih fun c hc => h c (by simp [hc])
    by_cases hlt : a < b
    · simp [Memory.insert, hlt, Memory.read]
    · by_cases hnb : n = b
      · simp [Memory.insert, hlt, Memory.read, hnb, hb]
      · simp [Memory.insert, hlt, Memory.read, hnb, ih]

/-- A byte written is read back, and every other address reads as before (R40, R41). -/
theorem read_write (m : Memory) (a : Nat) (v : Byte) (n : Nat) :
    Memory.read (Memory.write m a v) n = if n = a then v else Memory.read m n := by
  by_cases hv : v = unlistedByte
  · simp [Memory.write, hv, read_erase]
  · by_cases hn : n = a <;>
      simp [Memory.write, hv, read_insert _ _ _ _ (erase_lists_not m a), read_erase, hn]

theorem wfFrom_mono (m : Memory) (lo hi : Nat) (h : hi ≤ lo) (hm : Memory.wfFrom lo m = true) :
    Memory.wfFrom hi m = true := by
  cases m with
  | nil => rfl
  | cons c rest =>
    obtain ⟨b, w⟩ := c
    simp only [Memory.wfFrom, Bool.and_eq_true, decide_eq_true_eq] at hm ⊢
    exact ⟨⟨⟨by omega, hm.1.1.2⟩, hm.1.2⟩, hm.2⟩

theorem wfFrom_erase (m : Memory) (a lo : Nat) (hm : Memory.wfFrom lo m = true) :
    Memory.wfFrom lo (Memory.erase m a) = true := by
  induction m generalizing lo with
  | nil => rfl
  | cons c rest ih =>
    obtain ⟨b, w⟩ := c
    simp only [Memory.wfFrom, Bool.and_eq_true, decide_eq_true_eq] at hm
    have ih := ih (b + 1) hm.2
    by_cases hb : b = a
    · subst hb
      have := wfFrom_mono _ _ lo (by omega) ih
      simpa [Memory.erase] using this
    · have hcons : Memory.erase ((b, w) :: rest) a = (b, w) :: Memory.erase rest a := by
        simp [Memory.erase, hb]
      simp only [hcons, Memory.wfFrom, Bool.and_eq_true, decide_eq_true_eq]
      exact ⟨hm.1, ih⟩

theorem wfFrom_insert (m : Memory) (a lo : Nat) (v : Byte) (ha : lo ≤ a) (hlt : a < 65536)
    (hv : v ≠ unlistedByte) (hne : ∀ c ∈ m, c.1 ≠ a) (hm : Memory.wfFrom lo m = true) :
    Memory.wfFrom lo (Memory.insert m a v) = true := by
  induction m generalizing lo with
  | nil => simp [Memory.insert, Memory.wfFrom, ha, hlt, hv]
  | cons c rest ih =>
    obtain ⟨b, w⟩ := c
    have hb : b ≠ a := hne (b, w) (by simp)
    have hne' : ∀ c ∈ rest, c.1 ≠ a := fun c hc => hne c (by simp [hc])
    simp only [Memory.wfFrom, Bool.and_eq_true, decide_eq_true_eq] at hm
    by_cases h : a < b
    · simp only [Memory.insert, h, if_true, Memory.wfFrom, Bool.and_eq_true, decide_eq_true_eq]
      refine ⟨⟨⟨ha, hlt⟩, by simpa using hv⟩, ⟨⟨by omega, hm.1.1.2⟩, hm.1.2⟩, hm.2⟩
    · simp only [Memory.insert, h, if_false, Memory.wfFrom, Bool.and_eq_true, decide_eq_true_eq]
      exact ⟨hm.1, ih (b + 1) (by omega) hne' hm.2⟩

/-- A write keeps the canonical form. -/
theorem wf_write (m : Memory) (a : Nat) (v : Byte) (ha : a < 65536) (hm : Memory.wf m = true) :
    Memory.wf (Memory.write m a v) = true := by
  by_cases hv : v = unlistedByte
  · simpa [Memory.write, hv, Memory.wf] using wfFrom_erase m a 0 hm
  · simpa [Memory.write, hv, Memory.wf] using
      wfFrom_insert _ a 0 v (by omega) ha hv (erase_lists_not m a) (wfFrom_erase m a 0 hm)

/-- Memory after RESET is in its canonical form. -/
theorem wf_reset : Memory.wf State.reset.mem = true := rfl

end Sys2Proof.Laws
end

