-- ==== Sys2Proof/Laws/State.lean ====
section
/-! SUPPORT. One lemma per field of State per update, each true by definition. -/

namespace Sys2Proof.Laws

open Sys2Proof.Machine

section

variable (s : State) (v : Byte)

@[simp] theorem setA_a : (s.setA v).a = v := rfl
@[simp] theorem setA_x : (s.setA v).x = s.x := rfl
@[simp] theorem setA_y : (s.setA v).y = s.y := rfl
@[simp] theorem setA_sp : (s.setA v).sp = s.sp := rfl
@[simp] theorem setA_p : (s.setA v).p = s.p := rfl
@[simp] theorem setA_pc : (s.setA v).pc = s.pc := rfl
@[simp] theorem setA_mem : (s.setA v).mem = s.mem := rfl
@[simp] theorem setA_run : (s.setA v).run = s.run := rfl
@[simp] theorem setA_armed : (s.setA v).armed = s.armed := rfl
@[simp] theorem setA_hook : (s.setA v).hook = s.hook := rfl
@[simp] theorem setA_pending : (s.setA v).pending = s.pending := rfl
@[simp] theorem setA_report : (s.setA v).report = s.report := rfl

end

section

variable (s : State) (v : Byte)

@[simp] theorem setX_a : (s.setX v).a = s.a := rfl
@[simp] theorem setX_x : (s.setX v).x = v := rfl
@[simp] theorem setX_y : (s.setX v).y = s.y := rfl
@[simp] theorem setX_sp : (s.setX v).sp = s.sp := rfl
@[simp] theorem setX_p : (s.setX v).p = s.p := rfl
@[simp] theorem setX_pc : (s.setX v).pc = s.pc := rfl
@[simp] theorem setX_mem : (s.setX v).mem = s.mem := rfl
@[simp] theorem setX_run : (s.setX v).run = s.run := rfl
@[simp] theorem setX_armed : (s.setX v).armed = s.armed := rfl
@[simp] theorem setX_hook : (s.setX v).hook = s.hook := rfl
@[simp] theorem setX_pending : (s.setX v).pending = s.pending := rfl
@[simp] theorem setX_report : (s.setX v).report = s.report := rfl

end

section

variable (s : State) (v : Byte)

@[simp] theorem setY_a : (s.setY v).a = s.a := rfl
@[simp] theorem setY_x : (s.setY v).x = s.x := rfl
@[simp] theorem setY_y : (s.setY v).y = v := rfl
@[simp] theorem setY_sp : (s.setY v).sp = s.sp := rfl
@[simp] theorem setY_p : (s.setY v).p = s.p := rfl
@[simp] theorem setY_pc : (s.setY v).pc = s.pc := rfl
@[simp] theorem setY_mem : (s.setY v).mem = s.mem := rfl
@[simp] theorem setY_run : (s.setY v).run = s.run := rfl
@[simp] theorem setY_armed : (s.setY v).armed = s.armed := rfl
@[simp] theorem setY_hook : (s.setY v).hook = s.hook := rfl
@[simp] theorem setY_pending : (s.setY v).pending = s.pending := rfl
@[simp] theorem setY_report : (s.setY v).report = s.report := rfl

end

section

variable (s : State) (v : Byte)

@[simp] theorem setSp_a : (s.setSp v).a = s.a := rfl
@[simp] theorem setSp_x : (s.setSp v).x = s.x := rfl
@[simp] theorem setSp_y : (s.setSp v).y = s.y := rfl
@[simp] theorem setSp_sp : (s.setSp v).sp = v := rfl
@[simp] theorem setSp_p : (s.setSp v).p = s.p := rfl
@[simp] theorem setSp_pc : (s.setSp v).pc = s.pc := rfl
@[simp] theorem setSp_mem : (s.setSp v).mem = s.mem := rfl
@[simp] theorem setSp_run : (s.setSp v).run = s.run := rfl
@[simp] theorem setSp_armed : (s.setSp v).armed = s.armed := rfl
@[simp] theorem setSp_hook : (s.setSp v).hook = s.hook := rfl
@[simp] theorem setSp_pending : (s.setSp v).pending = s.pending := rfl
@[simp] theorem setSp_report : (s.setSp v).report = s.report := rfl

end

section

variable (s : State) (v : Byte)

@[simp] theorem setP_a : (s.setP v).a = s.a := rfl
@[simp] theorem setP_x : (s.setP v).x = s.x := rfl
@[simp] theorem setP_y : (s.setP v).y = s.y := rfl
@[simp] theorem setP_sp : (s.setP v).sp = s.sp := rfl
@[simp] theorem setP_p : (s.setP v).p = v := rfl
@[simp] theorem setP_pc : (s.setP v).pc = s.pc := rfl
@[simp] theorem setP_mem : (s.setP v).mem = s.mem := rfl
@[simp] theorem setP_run : (s.setP v).run = s.run := rfl
@[simp] theorem setP_armed : (s.setP v).armed = s.armed := rfl
@[simp] theorem setP_hook : (s.setP v).hook = s.hook := rfl
@[simp] theorem setP_pending : (s.setP v).pending = s.pending := rfl
@[simp] theorem setP_report : (s.setP v).report = s.report := rfl

end

section

variable (s : State) (v : Word)

@[simp] theorem setPc_a : (s.setPc v).a = s.a := rfl
@[simp] theorem setPc_x : (s.setPc v).x = s.x := rfl
@[simp] theorem setPc_y : (s.setPc v).y = s.y := rfl
@[simp] theorem setPc_sp : (s.setPc v).sp = s.sp := rfl
@[simp] theorem setPc_p : (s.setPc v).p = s.p := rfl
@[simp] theorem setPc_pc : (s.setPc v).pc = v := rfl
@[simp] theorem setPc_mem : (s.setPc v).mem = s.mem := rfl
@[simp] theorem setPc_run : (s.setPc v).run = s.run := rfl
@[simp] theorem setPc_armed : (s.setPc v).armed = s.armed := rfl
@[simp] theorem setPc_hook : (s.setPc v).hook = s.hook := rfl
@[simp] theorem setPc_pending : (s.setPc v).pending = s.pending := rfl
@[simp] theorem setPc_report : (s.setPc v).report = s.report := rfl

end

section

variable (s : State) (v : Memory)

@[simp] theorem setMem_a : (s.setMem v).a = s.a := rfl
@[simp] theorem setMem_x : (s.setMem v).x = s.x := rfl
@[simp] theorem setMem_y : (s.setMem v).y = s.y := rfl
@[simp] theorem setMem_sp : (s.setMem v).sp = s.sp := rfl
@[simp] theorem setMem_p : (s.setMem v).p = s.p := rfl
@[simp] theorem setMem_pc : (s.setMem v).pc = s.pc := rfl
@[simp] theorem setMem_mem : (s.setMem v).mem = v := rfl
@[simp] theorem setMem_run : (s.setMem v).run = s.run := rfl
@[simp] theorem setMem_armed : (s.setMem v).armed = s.armed := rfl
@[simp] theorem setMem_hook : (s.setMem v).hook = s.hook := rfl
@[simp] theorem setMem_pending : (s.setMem v).pending = s.pending := rfl
@[simp] theorem setMem_report : (s.setMem v).report = s.report := rfl

end

section

variable (s : State) (v : RunState)

@[simp] theorem setRun_a : (s.setRun v).a = s.a := rfl
@[simp] theorem setRun_x : (s.setRun v).x = s.x := rfl
@[simp] theorem setRun_y : (s.setRun v).y = s.y := rfl
@[simp] theorem setRun_sp : (s.setRun v).sp = s.sp := rfl
@[simp] theorem setRun_p : (s.setRun v).p = s.p := rfl
@[simp] theorem setRun_pc : (s.setRun v).pc = s.pc := rfl
@[simp] theorem setRun_mem : (s.setRun v).mem = s.mem := rfl
@[simp] theorem setRun_run : (s.setRun v).run = v := rfl
@[simp] theorem setRun_armed : (s.setRun v).armed = s.armed := rfl
@[simp] theorem setRun_hook : (s.setRun v).hook = s.hook := rfl
@[simp] theorem setRun_pending : (s.setRun v).pending = s.pending := rfl
@[simp] theorem setRun_report : (s.setRun v).report = s.report := rfl

end

section

variable (s : State) (v : Bool)

@[simp] theorem setArmed_a : (s.setArmed v).a = s.a := rfl
@[simp] theorem setArmed_x : (s.setArmed v).x = s.x := rfl
@[simp] theorem setArmed_y : (s.setArmed v).y = s.y := rfl
@[simp] theorem setArmed_sp : (s.setArmed v).sp = s.sp := rfl
@[simp] theorem setArmed_p : (s.setArmed v).p = s.p := rfl
@[simp] theorem setArmed_pc : (s.setArmed v).pc = s.pc := rfl
@[simp] theorem setArmed_mem : (s.setArmed v).mem = s.mem := rfl
@[simp] theorem setArmed_run : (s.setArmed v).run = s.run := rfl
@[simp] theorem setArmed_armed : (s.setArmed v).armed = v := rfl
@[simp] theorem setArmed_hook : (s.setArmed v).hook = s.hook := rfl
@[simp] theorem setArmed_pending : (s.setArmed v).pending = s.pending := rfl
@[simp] theorem setArmed_report : (s.setArmed v).report = s.report := rfl

end

section

variable (s : State) (v : List HookReply)

@[simp] theorem setHook_a : (s.setHook v).a = s.a := rfl
@[simp] theorem setHook_x : (s.setHook v).x = s.x := rfl
@[simp] theorem setHook_y : (s.setHook v).y = s.y := rfl
@[simp] theorem setHook_sp : (s.setHook v).sp = s.sp := rfl
@[simp] theorem setHook_p : (s.setHook v).p = s.p := rfl
@[simp] theorem setHook_pc : (s.setHook v).pc = s.pc := rfl
@[simp] theorem setHook_mem : (s.setHook v).mem = s.mem := rfl
@[simp] theorem setHook_run : (s.setHook v).run = s.run := rfl
@[simp] theorem setHook_armed : (s.setHook v).armed = s.armed := rfl
@[simp] theorem setHook_hook : (s.setHook v).hook = v := rfl
@[simp] theorem setHook_pending : (s.setHook v).pending = s.pending := rfl
@[simp] theorem setHook_report : (s.setHook v).report = s.report := rfl

end

section

variable (s : State) (v : List HostEvent)

@[simp] theorem setPending_a : (s.setPending v).a = s.a := rfl
@[simp] theorem setPending_x : (s.setPending v).x = s.x := rfl
@[simp] theorem setPending_y : (s.setPending v).y = s.y := rfl
@[simp] theorem setPending_sp : (s.setPending v).sp = s.sp := rfl
@[simp] theorem setPending_p : (s.setPending v).p = s.p := rfl
@[simp] theorem setPending_pc : (s.setPending v).pc = s.pc := rfl
@[simp] theorem setPending_mem : (s.setPending v).mem = s.mem := rfl
@[simp] theorem setPending_run : (s.setPending v).run = s.run := rfl
@[simp] theorem setPending_armed : (s.setPending v).armed = s.armed := rfl
@[simp] theorem setPending_hook : (s.setPending v).hook = s.hook := rfl
@[simp] theorem setPending_pending : (s.setPending v).pending = v := rfl
@[simp] theorem setPending_report : (s.setPending v).report = s.report := rfl

end

section

variable (s : State) (v : HostReport)

@[simp] theorem setReport_a : (s.setReport v).a = s.a := rfl
@[simp] theorem setReport_x : (s.setReport v).x = s.x := rfl
@[simp] theorem setReport_y : (s.setReport v).y = s.y := rfl
@[simp] theorem setReport_sp : (s.setReport v).sp = s.sp := rfl
@[simp] theorem setReport_p : (s.setReport v).p = s.p := rfl
@[simp] theorem setReport_pc : (s.setReport v).pc = s.pc := rfl
@[simp] theorem setReport_mem : (s.setReport v).mem = s.mem := rfl
@[simp] theorem setReport_run : (s.setReport v).run = s.run := rfl
@[simp] theorem setReport_armed : (s.setReport v).armed = s.armed := rfl
@[simp] theorem setReport_hook : (s.setReport v).hook = s.hook := rfl
@[simp] theorem setReport_pending : (s.setReport v).pending = s.pending := rfl
@[simp] theorem setReport_report : (s.setReport v).report = v := rfl

end

end Sys2Proof.Laws
end

