-- ==== Sys2Proof/Laws/Operations.lean ====
section
/-! SUPPORT. One lemma per shared operation that says everything it does; proofs about instructions cite these and
do not unfold the operations. -/

namespace Sys2Proof.Laws

open Sys2Proof.Machine

/-! ### Memory, stack and PC -/

theorem read_eq (s : State) (addr : Word) : s.read addr = Memory.read s.mem addr.toNat := rfl

theorem write_eq (s : State) (addr : Word) (v : Byte) :
    s.write addr v = { s with mem := Memory.write s.mem addr.toNat v } := rfl

/-- Writing bytes one after the other touches memory only. -/
theorem writeBytes_eq (bytes : List Byte) (s : State) (addr : Word) :
    s.writeBytes addr bytes = { s with mem := (s.writeBytes addr bytes).mem } := by
  induction bytes generalizing s addr with
  | nil => rfl
  | cons b rest ih =>
    simp only [State.writeBytes]
    rw [ih (s.write addr b) (addr + 1)]
    rfl

/-- Writing bytes keeps the canonical form of memory. -/
theorem wf_writeBytes (bytes : List Byte) (s : State) (addr : Word) (h : Memory.wf s.mem = true) :
    Memory.wf (s.writeBytes addr bytes).mem = true := by
  induction bytes generalizing s addr with
  | nil => exact h
  | cons b rest ih => exact ih _ _ (wf_write _ _ _ addr.isLt h)

@[simp] theorem stackAddr_toNat (sp : Byte) : (stackAddr sp).toNat = 0x100 + sp.toNat := by
  have := sp.isLt
  simp [stackAddr, Config.stackBase]
  omega

theorem push8_eq (s : State) (v : Byte) :
    s.push8 v = { s with mem := Memory.write s.mem (stackAddr s.sp).toNat v, sp := s.sp - 1 } := rfl

theorem pull8_eq (s : State) :
    s.pull8 = (Memory.read s.mem (stackAddr (s.sp + 1)).toNat, { s with sp := s.sp + 1 }) := rfl

theorem push16_eq (s : State) (w : Word) :
    s.push16 w = { s with
      mem := Memory.write (Memory.write s.mem (stackAddr s.sp).toNat (highByte w)) (stackAddr (s.sp - 1)).toNat
        (lowByte w)
      sp := s.sp - 1 - 1 } := rfl

theorem pull16_eq (s : State) :
    s.pull16 = (joinBytes (Memory.read s.mem (stackAddr (s.sp + 1 + 1)).toNat)
      (Memory.read s.mem (stackAddr (s.sp + 1)).toNat), { s with sp := s.sp + 1 + 1 }) := rfl

theorem read16_toNat (s : State) (addr : Word) :
    (s.read16 addr).toNat =
      256 * (Memory.read s.mem ((addr.toNat + 1) % 65536)).toNat + (Memory.read s.mem addr.toNat).toNat := by
  simp [State.read16, read_eq]

/-- The high byte comes from the next address of the same page (R102, R103, R200). -/
theorem readWordInPage_toNat (s : State) (addr : Word) :
    (s.readWordInPage addr).toNat =
      256 * (Memory.read s.mem (addr.toNat / 256 * 256 + (addr.toNat + 1) % 256)).toNat +
        (Memory.read s.mem addr.toNat).toNat := by
  have h : (joinBytes (highByte addr) (lowByte addr + 1)).toNat =
      addr.toNat / 256 * 256 + (addr.toNat + 1) % 256 := by
    simp
    omega
  simp only [State.readWordInPage, read_eq, joinBytes_toNat, h]

/-- PC past the opcode byte and then past `n` more bytes. -/
theorem pc_past (pc : Word) (n : Nat) : pc + 1#16 + BitVec.ofNat 16 n = pc + BitVec.ofNat 16 (n + 1) := by
  apply BitVec.eq_of_toNat_eq
  simp
  omega

/-! ### The resolver -/

theorem withEA_of_ok (s : State) (m : Operand) (rule : Word → State) (ea : Word) (h : m.resolve s = .ok ea) :
    s.withEA m rule = rule ea := by
  simp [State.withEA, h]

/-- The nine memory tags resolve (R95 to R103). -/
theorem resolve_ok (m : Operand) (s : State) (h : m ≠ .noneAddressing) : ∃ ea, m.resolve s = .ok ea := by
  cases m <;> first | exact ⟨_, rfl⟩ | exact absurd rfl h

/-! ### The forms of the instructions: `ea` is what the resolver gives past the opcode byte -/

section

variable (s : State) (m : Operand) (ea : Word) (h : m.resolve s.pastOpcode = .ok ea)

include h

theorem loadForm_eq (r : Reg) :
    loadForm r m s = { (s.setReg r (m.fetch ea s)) with
      p := setZN (m.fetch ea s) s.p
      pc := s.pc + BitVec.ofNat 16 (m.size + 1) } := by
  have hf : m.fetch ea s.pastOpcode = m.fetch ea s := by cases m <;> rfl
  simp only [loadForm, withEA_of_ok _ _ _ _ h, hf]
  cases r <;> simp [State.setReg, State.pastOpcode, State.pastOperands, State.setA, State.setX, State.setY,
    State.setP, State.setPc, pc_past]

theorem storeForm_eq (r : Reg) :
    storeForm r m s = { s with
      mem := Memory.write s.mem ea.toNat (s.reg r)
      pc := s.pc + BitVec.ofNat 16 (m.size + 1) } := by
  simp only [storeForm, withEA_of_ok _ _ _ _ h]
  cases r <;> simp [State.reg, State.write, State.pastOpcode, State.pastOperands, State.setMem, State.setPc, pc_past]

theorem accumulatorForm_eq (f : Byte → Byte → Byte → Byte × Byte) :
    accumulatorForm f m s = { s with
      a := (f s.a (m.fetch ea s) s.p).1
      p := (f s.a (m.fetch ea s) s.p).2
      pc := s.pc + BitVec.ofNat 16 (m.size + 1) } := by
  have hf : m.fetch ea s.pastOpcode = m.fetch ea s := by cases m <;> rfl
  simp only [accumulatorForm, withEA_of_ok _ _ _ _ h, hf]
  simp [State.pastOpcode, State.pastOperands, State.setA, State.setP, State.setPc, pc_past]

theorem compareForm_eq (r : Reg) :
    compareForm r m s = { s with
      p := compareFlags (s.reg r) (m.fetch ea s) s.p
      pc := s.pc + BitVec.ofNat 16 (m.size + 1) } := by
  have hf : m.fetch ea s.pastOpcode = m.fetch ea s := by cases m <;> rfl
  simp only [compareForm, withEA_of_ok _ _ _ _ h, hf]
  cases r <;> simp [State.reg, State.pastOpcode, State.pastOperands, State.setP, State.setPc, pc_past]

theorem bitTestForm_eq :
    bitTestForm m s = { s with
      p := bitTestFlags s.a (m.fetch ea s) s.p
      pc := s.pc + BitVec.ofNat 16 (m.size + 1) } := by
  have hf : m.fetch ea s.pastOpcode = m.fetch ea s := by cases m <;> rfl
  simp only [bitTestForm, withEA_of_ok _ _ _ _ h, hf]
  simp [State.pastOpcode, State.pastOperands, State.setP, State.setPc, pc_past]

theorem readModifyWrite_eq (f : Byte → Byte → Byte × Byte) :
    readModifyWrite f m s = { s with
      mem := Memory.write s.mem ea.toNat (f (m.fetch ea s) s.p).1
      p := (f (m.fetch ea s) s.p).2
      pc := s.pc + BitVec.ofNat 16 (m.size + 1) } := by
  have hf : m.fetch ea s.pastOpcode = m.fetch ea s := by cases m <;> rfl
  simp only [readModifyWrite, withEA_of_ok _ _ _ _ h, hf]
  simp [State.pastOpcode, State.pastOperands, State.write, State.setMem, State.setP, State.setPc, pc_past]

end

section

variable (s : State)

theorem transferForm_eq (v : Byte) (r : Reg) :
    transferForm v r s = { (s.setReg r v) with p := setZN v s.p, pc := s.pc + 1 } := by cases r <;> rfl

theorem onAccumulator_eq (f : Byte → Byte → Byte × Byte) :
    onAccumulator f s = { s with a := (f s.a s.p).1, p := (f s.a s.p).2, pc := s.pc + 1 } := rfl

theorem onIndex_eq (f : Byte → Byte → Byte × Byte) (r : Reg) :
    onIndex f r s = { (s.setReg r (f (s.reg r) s.p).1) with p := (f (s.reg r) s.p).2, pc := s.pc + 1 } := by
  cases r <;> rfl

theorem branchForm_eq (f : Flag) (want : Bool) (off : Byte) :
    branchForm f want off s = { s with
      pc := if getFlag f s.p = want then s.pc + 1 + 1 + sext16 off else s.pc + 1 + 1 } := by
  by_cases h : getFlag f s.p = want <;>
    simp [branchForm, h, State.pastOpcode, State.pastOperands, State.setPc]

theorem jumpAbsolute_eq (target : Word) : jumpAbsolute target s = { s with pc := target } := rfl

theorem jumpIndirect_eq (ptr : Word) : jumpIndirect ptr s = { s with pc := s.readWordInPage ptr } := rfl

theorem callSubroutine_eq (target : Word) :
    callSubroutine target s = { (s.push16 (s.pc + 1 + 1)) with pc := target } := rfl

theorem returnFromSubroutine_eq :
    returnFromSubroutine s = { s with pc := s.pull16.1 + 1, sp := s.sp + 1 + 1 } := rfl

theorem returnFromInterrupt_eq :
    s.pastOpcode.returnFromInterrupt = { s with
      p := Memory.read s.mem (stackAddr (s.sp + 1)).toNat &&& 0xCF
      pc := joinBytes (Memory.read s.mem (stackAddr (s.sp + 1 + 1 + 1)).toNat)
        (Memory.read s.mem (stackAddr (s.sp + 1 + 1)).toNat)
      sp := s.sp + 1 + 1 + 1 } := rfl

theorem flagForm_eq (f : Flag) (b : Bool) : flagForm f b s = { s with p := putFlag f b s.p, pc := s.pc + 1 } := rfl

theorem pullAccumulator_eq :
    pullAccumulator s = { s with
      a := s.pull8.1
      p := setZN s.pull8.1 s.p
      sp := s.sp + 1
      pc := s.pc + 1 } := rfl

theorem pullStatus_eq :
    pullStatus s = { s with p := pulledStatus s.pull8.1, sp := s.sp + 1, pc := s.pc + 1 } := rfl

end

/-! ### Host accesses -/

/-- A host access leaves the run state, `armed` and the host's coming moves as they are. -/
theorem hostAccess_keeps (s : State) (what : HostAccess) :
    (s.hostAccess what).run = s.run ∧ (s.hostAccess what).armed = s.armed ∧
    (s.hostAccess what).hook = s.hook ∧ (s.hostAccess what).pending = s.pending := by
  cases what with
  | readMem addr => exact ⟨rfl, rfl, rfl, rfl⟩
  | writeMem addr v => exact ⟨rfl, rfl, rfl, rfl⟩
  | readReg r => exact ⟨rfl, rfl, rfl, rfl⟩
  | writeReg r v => cases r <;> exact ⟨rfl, rfl, rfl, rfl⟩

theorem hostAccesses_keep (whats : List HostAccess) (s : State) :
    (s.hostAccesses whats).run = s.run ∧ (s.hostAccesses whats).armed = s.armed ∧
    (s.hostAccesses whats).hook = s.hook ∧ (s.hostAccesses whats).pending = s.pending := by
  induction whats generalizing s with
  | nil => exact ⟨rfl, rfl, rfl, rfl⟩
  | cons what rest ih =>
    obtain ⟨h1, h2, h3, h4⟩ := hostAccess_keeps s what
    obtain ⟨i1, i2, i3, i4⟩ := ih (s.hostAccess what)
    exact ⟨i1.trans h1, i2.trans h2, i3.trans h3, i4.trans h4⟩

/-- A host access keeps the canonical form of memory. -/
theorem wf_hostAccess (s : State) (what : HostAccess) (h : Memory.wf s.mem = true) :
    Memory.wf (s.hostAccess what).mem = true := by
  cases what with
  | readMem addr => exact h
  | writeMem addr v => exact wf_write _ _ _ addr.isLt h
  | readReg r => exact h
  | writeReg r v => cases r <;> exact h

theorem wf_hostAccesses (whats : List HostAccess) (s : State) (h : Memory.wf s.mem = true) :
    Memory.wf (s.hostAccesses whats).mem = true := by
  induction whats generalizing s with
  | nil => exact h
  | cons what rest ih => exact ih _ (wf_hostAccess s what h)

end Sys2Proof.Laws
end

