-- ==== Sys2Proof/Laws/Forms.lean ====
section
/-! SUPPORT. What an instruction can do, said once: each of the 151 rows is one of 22 forms, and `exec` runs the
form. A claim about all instructions is proved form by form. -/

namespace Sys2Proof.Laws

open Sys2Proof.Machine

/-- The forms of instruction, with what distinguishes the rows of one form. -/
inductive Form where
  | load (r : Reg) (m : Operand)
  | store (r : Reg) (m : Operand)
  | transfer (source : State → Byte) (r : Reg)
  | moveToSp
  | accumulator (f : Byte → Byte → Byte → Byte × Byte) (m : Operand)
  | compare (r : Reg) (m : Operand)
  | bitTest (m : Operand)
  | modify (f : Byte → Byte → Byte × Byte) (m : Operand)
  | shiftA (f : Byte → Byte → Byte × Byte)
  | index (f : Byte → Byte → Byte × Byte) (r : Reg)
  | branch (f : Flag) (want : Bool) (off : Byte)
  | jump (target : Word)
  | jumpIndirect (ptr : Word)
  | call (target : Word)
  | ret
  | retInt
  | push (value : State → Byte)
  | pullA
  | pullP
  | flag (f : Flag) (b : Bool)
  | halt
  | nop

/-- The state after a form. -/
def Form.run : Form → State → State
  | .load r m, s => loadForm r m s
  | .store r m, s => storeForm r m s
  | .transfer source r, s => transferForm (source s) r s
  | .moveToSp, s => s.pastOpcode.setSp s.x
  | .accumulator f m, s => accumulatorForm f m s
  | .compare r m, s => compareForm r m s
  | .bitTest m, s => bitTestForm m s
  | .modify f m, s => readModifyWrite f m s
  | .shiftA f, s => onAccumulator f s
  | .index f r, s => onIndex f r s
  | .branch f want off, s => branchForm f want off s
  | .jump target, s => jumpAbsolute target s
  | .jumpIndirect ptr, s => Machine.jumpIndirect ptr s
  | .call target, s => callSubroutine target s
  | .ret, s => returnFromSubroutine s
  | .retInt, s => s.pastOpcode.returnFromInterrupt
  | .push value, s => s.pastOpcode.push8 (value s)
  | .pullA, s => pullAccumulator s
  | .pullP, s => pullStatus s
  | .flag f b, s => flagForm f b s
  | .halt, s => s.pastOpcode.halt
  | .nop, s => s.pastOpcode

/-- The form of each row. -/
def formOf : Instr → Form
  | .brk => .halt
  | .oraIzx zp8 => .accumulator bitOra (.izx zp8)
  | .oraZp zp8 => .accumulator bitOra (.zp zp8)
  | .aslZp zp8 => .modify shiftLeft (.zp zp8)
  | .php => .push fun s => pushedStatus s.p
  | .oraImm imm8 => .accumulator bitOra (.imm imm8)
  | .aslAcc => .shiftA shiftLeft
  | .oraAbs abs16 => .accumulator bitOra (.abs abs16)
  | .aslAbs abs16 => .modify shiftLeft (.abs abs16)
  | .bpl rel8 => .branch .n false rel8
  | .oraIzy zp8 => .accumulator bitOra (.izy zp8)
  | .oraZpx zp8 => .accumulator bitOra (.zpx zp8)
  | .aslZpx zp8 => .modify shiftLeft (.zpx zp8)
  | .clc => .flag .c false
  | .oraAby abs16 => .accumulator bitOra (.aby abs16)
  | .oraAbx abs16 => .accumulator bitOra (.abx abs16)
  | .aslAbx abs16 => .modify shiftLeft (.abx abs16)
  | .jsr abs16 => .call abs16
  | .andIzx zp8 => .accumulator bitAnd (.izx zp8)
  | .bitZp zp8 => .bitTest (.zp zp8)
  | .andZp zp8 => .accumulator bitAnd (.zp zp8)
  | .rolZp zp8 => .modify rotateLeft (.zp zp8)
  | .plp => .pullP
  | .andImm imm8 => .accumulator bitAnd (.imm imm8)
  | .rolAcc => .shiftA rotateLeft
  | .bitAbs abs16 => .bitTest (.abs abs16)
  | .andAbs abs16 => .accumulator bitAnd (.abs abs16)
  | .rolAbs abs16 => .modify rotateLeft (.abs abs16)
  | .bmi rel8 => .branch .n true rel8
  | .andIzy zp8 => .accumulator bitAnd (.izy zp8)
  | .andZpx zp8 => .accumulator bitAnd (.zpx zp8)
  | .rolZpx zp8 => .modify rotateLeft (.zpx zp8)
  | .sec => .flag .c true
  | .andAby abs16 => .accumulator bitAnd (.aby abs16)
  | .andAbx abs16 => .accumulator bitAnd (.abx abs16)
  | .rolAbx abs16 => .modify rotateLeft (.abx abs16)
  | .rti => .retInt
  | .eorIzx zp8 => .accumulator bitEor (.izx zp8)
  | .eorZp zp8 => .accumulator bitEor (.zp zp8)
  | .lsrZp zp8 => .modify shiftRight (.zp zp8)
  | .pha => .push State.a
  | .eorImm imm8 => .accumulator bitEor (.imm imm8)
  | .lsrAcc => .shiftA shiftRight
  | .jmpAbs abs16 => .jump abs16
  | .eorAbs abs16 => .accumulator bitEor (.abs abs16)
  | .lsrAbs abs16 => .modify shiftRight (.abs abs16)
  | .bvc rel8 => .branch .v false rel8
  | .eorIzy zp8 => .accumulator bitEor (.izy zp8)
  | .eorZpx zp8 => .accumulator bitEor (.zpx zp8)
  | .lsrZpx zp8 => .modify shiftRight (.zpx zp8)
  | .cli => .flag .i false
  | .eorAby abs16 => .accumulator bitEor (.aby abs16)
  | .eorAbx abs16 => .accumulator bitEor (.abx abs16)
  | .lsrAbx abs16 => .modify shiftRight (.abx abs16)
  | .rts => .ret
  | .adcIzx zp8 => .accumulator addWithCarry (.izx zp8)
  | .adcZp zp8 => .accumulator addWithCarry (.zp zp8)
  | .rorZp zp8 => .modify rotateRight (.zp zp8)
  | .pla => .pullA
  | .adcImm imm8 => .accumulator addWithCarry (.imm imm8)
  | .rorAcc => .shiftA rotateRight
  | .jmpInd ptr16 => .jumpIndirect ptr16
  | .adcAbs abs16 => .accumulator addWithCarry (.abs abs16)
  | .rorAbs abs16 => .modify rotateRight (.abs abs16)
  | .bvs rel8 => .branch .v true rel8
  | .adcIzy zp8 => .accumulator addWithCarry (.izy zp8)
  | .adcZpx zp8 => .accumulator addWithCarry (.zpx zp8)
  | .rorZpx zp8 => .modify rotateRight (.zpx zp8)
  | .sei => .flag .i true
  | .adcAby abs16 => .accumulator addWithCarry (.aby abs16)
  | .adcAbx abs16 => .accumulator addWithCarry (.abx abs16)
  | .rorAbx abs16 => .modify rotateRight (.abx abs16)
  | .staIzx zp8 => .store .a (.izx zp8)
  | .styZp zp8 => .store .y (.zp zp8)
  | .staZp zp8 => .store .a (.zp zp8)
  | .stxZp zp8 => .store .x (.zp zp8)
  | .dey => .index decrement .y
  | .txa => .transfer State.x .a
  | .styAbs abs16 => .store .y (.abs abs16)
  | .staAbs abs16 => .store .a (.abs abs16)
  | .stxAbs abs16 => .store .x (.abs abs16)
  | .bcc rel8 => .branch .c false rel8
  | .staIzy zp8 => .store .a (.izy zp8)
  | .styZpx zp8 => .store .y (.zpx zp8)
  | .staZpx zp8 => .store .a (.zpx zp8)
  | .stxZpy zp8 => .store .x (.zpy zp8)
  | .tya => .transfer State.y .a
  | .staAby abs16 => .store .a (.aby abs16)
  | .txs => .moveToSp
  | .staAbx abs16 => .store .a (.abx abs16)
  | .ldyImm imm8 => .load .y (.imm imm8)
  | .ldaIzx zp8 => .load .a (.izx zp8)
  | .ldxImm imm8 => .load .x (.imm imm8)
  | .ldyZp zp8 => .load .y (.zp zp8)
  | .ldaZp zp8 => .load .a (.zp zp8)
  | .ldxZp zp8 => .load .x (.zp zp8)
  | .tay => .transfer State.a .y
  | .ldaImm imm8 => .load .a (.imm imm8)
  | .tax => .transfer State.a .x
  | .ldyAbs abs16 => .load .y (.abs abs16)
  | .ldaAbs abs16 => .load .a (.abs abs16)
  | .ldxAbs abs16 => .load .x (.abs abs16)
  | .bcs rel8 => .branch .c true rel8
  | .ldaIzy zp8 => .load .a (.izy zp8)
  | .ldyZpx zp8 => .load .y (.zpx zp8)
  | .ldaZpx zp8 => .load .a (.zpx zp8)
  | .ldxZpy zp8 => .load .x (.zpy zp8)
  | .clv => .flag .v false
  | .ldaAby abs16 => .load .a (.aby abs16)
  | .tsx => .transfer State.sp .x
  | .ldyAbx abs16 => .load .y (.abx abs16)
  | .ldaAbx abs16 => .load .a (.abx abs16)
  | .ldxAby abs16 => .load .x (.aby abs16)
  | .cpyImm imm8 => .compare .y (.imm imm8)
  | .cmpIzx zp8 => .compare .a (.izx zp8)
  | .cpyZp zp8 => .compare .y (.zp zp8)
  | .cmpZp zp8 => .compare .a (.zp zp8)
  | .decZp zp8 => .modify decrement (.zp zp8)
  | .iny => .index increment .y
  | .cmpImm imm8 => .compare .a (.imm imm8)
  | .dex => .index decrement .x
  | .cpyAbs abs16 => .compare .y (.abs abs16)
  | .cmpAbs abs16 => .compare .a (.abs abs16)
  | .decAbs abs16 => .modify decrement (.abs abs16)
  | .bne rel8 => .branch .z false rel8
  | .cmpIzy zp8 => .compare .a (.izy zp8)
  | .cmpZpx zp8 => .compare .a (.zpx zp8)
  | .decZpx zp8 => .modify decrement (.zpx zp8)
  | .cld => .flag .d false
  | .cmpAby abs16 => .compare .a (.aby abs16)
  | .cmpAbx abs16 => .compare .a (.abx abs16)
  | .decAbx abs16 => .modify decrement (.abx abs16)
  | .cpxImm imm8 => .compare .x (.imm imm8)
  | .sbcIzx zp8 => .accumulator subWithCarry (.izx zp8)
  | .cpxZp zp8 => .compare .x (.zp zp8)
  | .sbcZp zp8 => .accumulator subWithCarry (.zp zp8)
  | .incZp zp8 => .modify increment (.zp zp8)
  | .inx => .index increment .x
  | .sbcImm imm8 => .accumulator subWithCarry (.imm imm8)
  | .nop => .nop
  | .cpxAbs abs16 => .compare .x (.abs abs16)
  | .sbcAbs abs16 => .accumulator subWithCarry (.abs abs16)
  | .incAbs abs16 => .modify increment (.abs abs16)
  | .beq rel8 => .branch .z true rel8
  | .sbcIzy zp8 => .accumulator subWithCarry (.izy zp8)
  | .sbcZpx zp8 => .accumulator subWithCarry (.zpx zp8)
  | .incZpx zp8 => .modify increment (.zpx zp8)
  | .sed => .flag .d true
  | .sbcAby abs16 => .accumulator subWithCarry (.aby abs16)
  | .sbcAbx abs16 => .accumulator subWithCarry (.abx abs16)
  | .incAbx abs16 => .modify increment (.abx abs16)

/-- `exec` runs the instruction's form and answers the next state. -/
theorem exec_eq_form (i : Instr) (s : State) : exec i s = .next ((formOf i).run s) := by
  cases i <;> rfl

/-- The operand of a form that resolves one. -/
def Form.operand? : Form → Option Operand
  | .load _ m | .store _ m | .accumulator _ m | .compare _ m | .bitTest m | .modify _ m => some m
  | _ => none

/-- An instruction whose form resolves an operand carries that operand, it is not NoneAddressing, and its size is
the instruction's length less the opcode byte (30_encoding.md R71, R72, 60_exceptions.md R232). -/
theorem operand_of_form (i : Instr) (m : Operand) (h : (formOf i).operand? = some m) :
    i.operand = m ∧ m ≠ .noneAddressing ∧ m.size + 1 = i.length := by
  cases i <;> first
    | (simp [formOf, Form.operand?] at h; done)
    | (obtain rfl := Option.some.inj h
       refine ⟨rfl, ?_, rfl⟩
       simp)

/-- A form that resolves no operand, other than BRK's, leaves the run state, `armed` and the host's fields as they
are. -/
theorem run_keeps_of_no_operand (f : Form) (s : State) (h : f.operand? = none) (hf : f ≠ .halt) :
    (f.run s).run = s.run ∧ (f.run s).armed = s.armed ∧ (f.run s).hook = s.hook ∧ (f.run s).pending = s.pending ∧
    (f.run s).report = s.report := by
  cases f with
  | load r m | store r m | accumulator f m | compare r m | bitTest m | modify f m => cases h
  | halt => exact absurd rfl hf
  | transfer source r => cases r <;> exact ⟨rfl, rfl, rfl, rfl, rfl⟩
  | index g r => cases r <;> exact ⟨rfl, rfl, rfl, rfl, rfl⟩
  | branch g want off => simp only [Form.run, branchForm_eq, and_self]
  | call target => simp only [Form.run, callSubroutine_eq, push16_eq, and_self]
  | ret => simp only [Form.run, returnFromSubroutine_eq, and_self]
  | retInt => simp only [Form.run, returnFromInterrupt_eq, and_self]
  | pullA => simp only [Form.run, pullAccumulator_eq, and_self]
  | pullP => simp only [Form.run, pullStatus_eq, and_self]
  | moveToSp | shiftA g | jump target | jumpIndirect ptr | push value | flag g b | nop =>
    exact ⟨rfl, rfl, rfl, rfl, rfl⟩

/-- A form that resolves an operand, on one of the memory tags, leaves the run state, SP, `armed` and the host's
fields as they are. -/
theorem run_keeps_of_operand (f : Form) (s : State) (m : Operand) (h : f.operand? = some m)
    (hm : m ≠ .noneAddressing) :
    (f.run s).run = s.run ∧ (f.run s).sp = s.sp ∧ (f.run s).armed = s.armed ∧ (f.run s).hook = s.hook ∧
    (f.run s).pending = s.pending ∧ (f.run s).report = s.report := by
  obtain ⟨ea, hea⟩ := resolve_ok m s.pastOpcode hm
  cases f with
  | load r m' =>
    cases h
    rw [Form.run, loadForm_eq s m ea hea]
    cases r <;> exact ⟨rfl, rfl, rfl, rfl, rfl, rfl⟩
  | store r m' =>
    cases h
    rw [Form.run, storeForm_eq s m ea hea]
    exact ⟨rfl, rfl, rfl, rfl, rfl, rfl⟩
  | accumulator g m' =>
    cases h
    rw [Form.run, accumulatorForm_eq s m ea hea]
    exact ⟨rfl, rfl, rfl, rfl, rfl, rfl⟩
  | compare r m' =>
    cases h
    rw [Form.run, compareForm_eq s m ea hea]
    exact ⟨rfl, rfl, rfl, rfl, rfl, rfl⟩
  | bitTest m' =>
    cases h
    rw [Form.run, bitTestForm_eq s m ea hea]
    exact ⟨rfl, rfl, rfl, rfl, rfl, rfl⟩
  | modify g m' =>
    cases h
    rw [Form.run, readModifyWrite_eq s m ea hea]
    exact ⟨rfl, rfl, rfl, rfl, rfl, rfl⟩
  | _ => cases h

end Sys2Proof.Laws
end

