-- ==== Sys2Proof/Laws/PerInstr.lean ====
section
/-! SUPPORT. Facts about each instruction as syntax, one lemma per constructor. -/

namespace Sys2Proof.Laws.Encoding

/-- The instruction is well formed, and its encoding has the length of its format, 1 to 3 bytes (30_encoding.md
R70, R71, R76). -/
def Statement (i : Instr) : Prop :=
  i.wf = true ∧ (encode i).length = i.length ∧ 1 ≤ i.length ∧ i.length ≤ 3

/-- Every format is 1 to 3 bytes long (R70, R71). -/
theorem length_bounds (f : Format) : 1 ≤ f.length ∧ f.length ≤ 3 := by cases f <;> decide

theorem brk : Statement .brk := ⟨rfl, rfl, length_bounds _⟩
theorem oraIzx (zp8 : Byte) : Statement (.oraIzx zp8) := ⟨rfl, rfl, length_bounds _⟩
theorem oraZp (zp8 : Byte) : Statement (.oraZp zp8) := ⟨rfl, rfl, length_bounds _⟩
theorem aslZp (zp8 : Byte) : Statement (.aslZp zp8) := ⟨rfl, rfl, length_bounds _⟩
theorem php : Statement .php := ⟨rfl, rfl, length_bounds _⟩
theorem oraImm (imm8 : Byte) : Statement (.oraImm imm8) := ⟨rfl, rfl, length_bounds _⟩
theorem aslAcc : Statement .aslAcc := ⟨rfl, rfl, length_bounds _⟩
theorem oraAbs (abs16 : Word) : Statement (.oraAbs abs16) := ⟨rfl, rfl, length_bounds _⟩
theorem aslAbs (abs16 : Word) : Statement (.aslAbs abs16) := ⟨rfl, rfl, length_bounds _⟩
theorem bpl (rel8 : Byte) : Statement (.bpl rel8) := ⟨rfl, rfl, length_bounds _⟩
theorem oraIzy (zp8 : Byte) : Statement (.oraIzy zp8) := ⟨rfl, rfl, length_bounds _⟩
theorem oraZpx (zp8 : Byte) : Statement (.oraZpx zp8) := ⟨rfl, rfl, length_bounds _⟩
theorem aslZpx (zp8 : Byte) : Statement (.aslZpx zp8) := ⟨rfl, rfl, length_bounds _⟩
theorem clc : Statement .clc := ⟨rfl, rfl, length_bounds _⟩
theorem oraAby (abs16 : Word) : Statement (.oraAby abs16) := ⟨rfl, rfl, length_bounds _⟩
theorem oraAbx (abs16 : Word) : Statement (.oraAbx abs16) := ⟨rfl, rfl, length_bounds _⟩
theorem aslAbx (abs16 : Word) : Statement (.aslAbx abs16) := ⟨rfl, rfl, length_bounds _⟩
theorem jsr (abs16 : Word) : Statement (.jsr abs16) := ⟨rfl, rfl, length_bounds _⟩
theorem andIzx (zp8 : Byte) : Statement (.andIzx zp8) := ⟨rfl, rfl, length_bounds _⟩
theorem bitZp (zp8 : Byte) : Statement (.bitZp zp8) := ⟨rfl, rfl, length_bounds _⟩
theorem andZp (zp8 : Byte) : Statement (.andZp zp8) := ⟨rfl, rfl, length_bounds _⟩
theorem rolZp (zp8 : Byte) : Statement (.rolZp zp8) := ⟨rfl, rfl, length_bounds _⟩
theorem plp : Statement .plp := ⟨rfl, rfl, length_bounds _⟩
theorem andImm (imm8 : Byte) : Statement (.andImm imm8) := ⟨rfl, rfl, length_bounds _⟩
theorem rolAcc : Statement .rolAcc := ⟨rfl, rfl, length_bounds _⟩
theorem bitAbs (abs16 : Word) : Statement (.bitAbs abs16) := ⟨rfl, rfl, length_bounds _⟩
theorem andAbs (abs16 : Word) : Statement (.andAbs abs16) := ⟨rfl, rfl, length_bounds _⟩
theorem rolAbs (abs16 : Word) : Statement (.rolAbs abs16) := ⟨rfl, rfl, length_bounds _⟩
theorem bmi (rel8 : Byte) : Statement (.bmi rel8) := ⟨rfl, rfl, length_bounds _⟩
theorem andIzy (zp8 : Byte) : Statement (.andIzy zp8) := ⟨rfl, rfl, length_bounds _⟩
theorem andZpx (zp8 : Byte) : Statement (.andZpx zp8) := ⟨rfl, rfl, length_bounds _⟩
theorem rolZpx (zp8 : Byte) : Statement (.rolZpx zp8) := ⟨rfl, rfl, length_bounds _⟩
theorem sec : Statement .sec := ⟨rfl, rfl, length_bounds _⟩
theorem andAby (abs16 : Word) : Statement (.andAby abs16) := ⟨rfl, rfl, length_bounds _⟩
theorem andAbx (abs16 : Word) : Statement (.andAbx abs16) := ⟨rfl, rfl, length_bounds _⟩
theorem rolAbx (abs16 : Word) : Statement (.rolAbx abs16) := ⟨rfl, rfl, length_bounds _⟩
theorem rti : Statement .rti := ⟨rfl, rfl, length_bounds _⟩
theorem eorIzx (zp8 : Byte) : Statement (.eorIzx zp8) := ⟨rfl, rfl, length_bounds _⟩
theorem eorZp (zp8 : Byte) : Statement (.eorZp zp8) := ⟨rfl, rfl, length_bounds _⟩
theorem lsrZp (zp8 : Byte) : Statement (.lsrZp zp8) := ⟨rfl, rfl, length_bounds _⟩
theorem pha : Statement .pha := ⟨rfl, rfl, length_bounds _⟩
theorem eorImm (imm8 : Byte) : Statement (.eorImm imm8) := ⟨rfl, rfl, length_bounds _⟩
theorem lsrAcc : Statement .lsrAcc := ⟨rfl, rfl, length_bounds _⟩
theorem jmpAbs (abs16 : Word) : Statement (.jmpAbs abs16) := ⟨rfl, rfl, length_bounds _⟩
theorem eorAbs (abs16 : Word) : Statement (.eorAbs abs16) := ⟨rfl, rfl, length_bounds _⟩
theorem lsrAbs (abs16 : Word) : Statement (.lsrAbs abs16) := ⟨rfl, rfl, length_bounds _⟩
theorem bvc (rel8 : Byte) : Statement (.bvc rel8) := ⟨rfl, rfl, length_bounds _⟩
theorem eorIzy (zp8 : Byte) : Statement (.eorIzy zp8) := ⟨rfl, rfl, length_bounds _⟩
theorem eorZpx (zp8 : Byte) : Statement (.eorZpx zp8) := ⟨rfl, rfl, length_bounds _⟩
theorem lsrZpx (zp8 : Byte) : Statement (.lsrZpx zp8) := ⟨rfl, rfl, length_bounds _⟩
theorem cli : Statement .cli := ⟨rfl, rfl, length_bounds _⟩
theorem eorAby (abs16 : Word) : Statement (.eorAby abs16) := ⟨rfl, rfl, length_bounds _⟩
theorem eorAbx (abs16 : Word) : Statement (.eorAbx abs16) := ⟨rfl, rfl, length_bounds _⟩
theorem lsrAbx (abs16 : Word) : Statement (.lsrAbx abs16) := ⟨rfl, rfl, length_bounds _⟩
theorem rts : Statement .rts := ⟨rfl, rfl, length_bounds _⟩
theorem adcIzx (zp8 : Byte) : Statement (.adcIzx zp8) := ⟨rfl, rfl, length_bounds _⟩
theorem adcZp (zp8 : Byte) : Statement (.adcZp zp8) := ⟨rfl, rfl, length_bounds _⟩
theorem rorZp (zp8 : Byte) : Statement (.rorZp zp8) := ⟨rfl, rfl, length_bounds _⟩
theorem pla : Statement .pla := ⟨rfl, rfl, length_bounds _⟩
theorem adcImm (imm8 : Byte) : Statement (.adcImm imm8) := ⟨rfl, rfl, length_bounds _⟩
theorem rorAcc : Statement .rorAcc := ⟨rfl, rfl, length_bounds _⟩
theorem jmpInd (ptr16 : Word) : Statement (.jmpInd ptr16) := ⟨rfl, rfl, length_bounds _⟩
theorem adcAbs (abs16 : Word) : Statement (.adcAbs abs16) := ⟨rfl, rfl, length_bounds _⟩
theorem rorAbs (abs16 : Word) : Statement (.rorAbs abs16) := ⟨rfl, rfl, length_bounds _⟩
theorem bvs (rel8 : Byte) : Statement (.bvs rel8) := ⟨rfl, rfl, length_bounds _⟩
theorem adcIzy (zp8 : Byte) : Statement (.adcIzy zp8) := ⟨rfl, rfl, length_bounds _⟩
theorem adcZpx (zp8 : Byte) : Statement (.adcZpx zp8) := ⟨rfl, rfl, length_bounds _⟩
theorem rorZpx (zp8 : Byte) : Statement (.rorZpx zp8) := ⟨rfl, rfl, length_bounds _⟩
theorem sei : Statement .sei := ⟨rfl, rfl, length_bounds _⟩
theorem adcAby (abs16 : Word) : Statement (.adcAby abs16) := ⟨rfl, rfl, length_bounds _⟩
theorem adcAbx (abs16 : Word) : Statement (.adcAbx abs16) := ⟨rfl, rfl, length_bounds _⟩
theorem rorAbx (abs16 : Word) : Statement (.rorAbx abs16) := ⟨rfl, rfl, length_bounds _⟩
theorem staIzx (zp8 : Byte) : Statement (.staIzx zp8) := ⟨rfl, rfl, length_bounds _⟩
theorem styZp (zp8 : Byte) : Statement (.styZp zp8) := ⟨rfl, rfl, length_bounds _⟩
theorem staZp (zp8 : Byte) : Statement (.staZp zp8) := ⟨rfl, rfl, length_bounds _⟩
theorem stxZp (zp8 : Byte) : Statement (.stxZp zp8) := ⟨rfl, rfl, length_bounds _⟩
theorem dey : Statement .dey := ⟨rfl, rfl, length_bounds _⟩
theorem txa : Statement .txa := ⟨rfl, rfl, length_bounds _⟩
theorem styAbs (abs16 : Word) : Statement (.styAbs abs16) := ⟨rfl, rfl, length_bounds _⟩
theorem staAbs (abs16 : Word) : Statement (.staAbs abs16) := ⟨rfl, rfl, length_bounds _⟩
theorem stxAbs (abs16 : Word) : Statement (.stxAbs abs16) := ⟨rfl, rfl, length_bounds _⟩
theorem bcc (rel8 : Byte) : Statement (.bcc rel8) := ⟨rfl, rfl, length_bounds _⟩
theorem staIzy (zp8 : Byte) : Statement (.staIzy zp8) := ⟨rfl, rfl, length_bounds _⟩
theorem styZpx (zp8 : Byte) : Statement (.styZpx zp8) := ⟨rfl, rfl, length_bounds _⟩
theorem staZpx (zp8 : Byte) : Statement (.staZpx zp8) := ⟨rfl, rfl, length_bounds _⟩
theorem stxZpy (zp8 : Byte) : Statement (.stxZpy zp8) := ⟨rfl, rfl, length_bounds _⟩
theorem tya : Statement .tya := ⟨rfl, rfl, length_bounds _⟩
theorem staAby (abs16 : Word) : Statement (.staAby abs16) := ⟨rfl, rfl, length_bounds _⟩
theorem txs : Statement .txs := ⟨rfl, rfl, length_bounds _⟩
theorem staAbx (abs16 : Word) : Statement (.staAbx abs16) := ⟨rfl, rfl, length_bounds _⟩
theorem ldyImm (imm8 : Byte) : Statement (.ldyImm imm8) := ⟨rfl, rfl, length_bounds _⟩
theorem ldaIzx (zp8 : Byte) : Statement (.ldaIzx zp8) := ⟨rfl, rfl, length_bounds _⟩
theorem ldxImm (imm8 : Byte) : Statement (.ldxImm imm8) := ⟨rfl, rfl, length_bounds _⟩
theorem ldyZp (zp8 : Byte) : Statement (.ldyZp zp8) := ⟨rfl, rfl, length_bounds _⟩
theorem ldaZp (zp8 : Byte) : Statement (.ldaZp zp8) := ⟨rfl, rfl, length_bounds _⟩
theorem ldxZp (zp8 : Byte) : Statement (.ldxZp zp8) := ⟨rfl, rfl, length_bounds _⟩
theorem tay : Statement .tay := ⟨rfl, rfl, length_bounds _⟩
theorem ldaImm (imm8 : Byte) : Statement (.ldaImm imm8) := ⟨rfl, rfl, length_bounds _⟩
theorem tax : Statement .tax := ⟨rfl, rfl, length_bounds _⟩
theorem ldyAbs (abs16 : Word) : Statement (.ldyAbs abs16) := ⟨rfl, rfl, length_bounds _⟩
theorem ldaAbs (abs16 : Word) : Statement (.ldaAbs abs16) := ⟨rfl, rfl, length_bounds _⟩
theorem ldxAbs (abs16 : Word) : Statement (.ldxAbs abs16) := ⟨rfl, rfl, length_bounds _⟩
theorem bcs (rel8 : Byte) : Statement (.bcs rel8) := ⟨rfl, rfl, length_bounds _⟩
theorem ldaIzy (zp8 : Byte) : Statement (.ldaIzy zp8) := ⟨rfl, rfl, length_bounds _⟩
theorem ldyZpx (zp8 : Byte) : Statement (.ldyZpx zp8) := ⟨rfl, rfl, length_bounds _⟩
theorem ldaZpx (zp8 : Byte) : Statement (.ldaZpx zp8) := ⟨rfl, rfl, length_bounds _⟩
theorem ldxZpy (zp8 : Byte) : Statement (.ldxZpy zp8) := ⟨rfl, rfl, length_bounds _⟩
theorem clv : Statement .clv := ⟨rfl, rfl, length_bounds _⟩
theorem ldaAby (abs16 : Word) : Statement (.ldaAby abs16) := ⟨rfl, rfl, length_bounds _⟩
theorem tsx : Statement .tsx := ⟨rfl, rfl, length_bounds _⟩
theorem ldyAbx (abs16 : Word) : Statement (.ldyAbx abs16) := ⟨rfl, rfl, length_bounds _⟩
theorem ldaAbx (abs16 : Word) : Statement (.ldaAbx abs16) := ⟨rfl, rfl, length_bounds _⟩
theorem ldxAby (abs16 : Word) : Statement (.ldxAby abs16) := ⟨rfl, rfl, length_bounds _⟩
theorem cpyImm (imm8 : Byte) : Statement (.cpyImm imm8) := ⟨rfl, rfl, length_bounds _⟩
theorem cmpIzx (zp8 : Byte) : Statement (.cmpIzx zp8) := ⟨rfl, rfl, length_bounds _⟩
theorem cpyZp (zp8 : Byte) : Statement (.cpyZp zp8) := ⟨rfl, rfl, length_bounds _⟩
theorem cmpZp (zp8 : Byte) : Statement (.cmpZp zp8) := ⟨rfl, rfl, length_bounds _⟩
theorem decZp (zp8 : Byte) : Statement (.decZp zp8) := ⟨rfl, rfl, length_bounds _⟩
theorem iny : Statement .iny := ⟨rfl, rfl, length_bounds _⟩
theorem cmpImm (imm8 : Byte) : Statement (.cmpImm imm8) := ⟨rfl, rfl, length_bounds _⟩
theorem dex : Statement .dex := ⟨rfl, rfl, length_bounds _⟩
theorem cpyAbs (abs16 : Word) : Statement (.cpyAbs abs16) := ⟨rfl, rfl, length_bounds _⟩
theorem cmpAbs (abs16 : Word) : Statement (.cmpAbs abs16) := ⟨rfl, rfl, length_bounds _⟩
theorem decAbs (abs16 : Word) : Statement (.decAbs abs16) := ⟨rfl, rfl, length_bounds _⟩
theorem bne (rel8 : Byte) : Statement (.bne rel8) := ⟨rfl, rfl, length_bounds _⟩
theorem cmpIzy (zp8 : Byte) : Statement (.cmpIzy zp8) := ⟨rfl, rfl, length_bounds _⟩
theorem cmpZpx (zp8 : Byte) : Statement (.cmpZpx zp8) := ⟨rfl, rfl, length_bounds _⟩
theorem decZpx (zp8 : Byte) : Statement (.decZpx zp8) := ⟨rfl, rfl, length_bounds _⟩
theorem cld : Statement .cld := ⟨rfl, rfl, length_bounds _⟩
theorem cmpAby (abs16 : Word) : Statement (.cmpAby abs16) := ⟨rfl, rfl, length_bounds _⟩
theorem cmpAbx (abs16 : Word) : Statement (.cmpAbx abs16) := ⟨rfl, rfl, length_bounds _⟩
theorem decAbx (abs16 : Word) : Statement (.decAbx abs16) := ⟨rfl, rfl, length_bounds _⟩
theorem cpxImm (imm8 : Byte) : Statement (.cpxImm imm8) := ⟨rfl, rfl, length_bounds _⟩
theorem sbcIzx (zp8 : Byte) : Statement (.sbcIzx zp8) := ⟨rfl, rfl, length_bounds _⟩
theorem cpxZp (zp8 : Byte) : Statement (.cpxZp zp8) := ⟨rfl, rfl, length_bounds _⟩
theorem sbcZp (zp8 : Byte) : Statement (.sbcZp zp8) := ⟨rfl, rfl, length_bounds _⟩
theorem incZp (zp8 : Byte) : Statement (.incZp zp8) := ⟨rfl, rfl, length_bounds _⟩
theorem inx : Statement .inx := ⟨rfl, rfl, length_bounds _⟩
theorem sbcImm (imm8 : Byte) : Statement (.sbcImm imm8) := ⟨rfl, rfl, length_bounds _⟩
theorem nop : Statement .nop := ⟨rfl, rfl, length_bounds _⟩
theorem cpxAbs (abs16 : Word) : Statement (.cpxAbs abs16) := ⟨rfl, rfl, length_bounds _⟩
theorem sbcAbs (abs16 : Word) : Statement (.sbcAbs abs16) := ⟨rfl, rfl, length_bounds _⟩
theorem incAbs (abs16 : Word) : Statement (.incAbs abs16) := ⟨rfl, rfl, length_bounds _⟩
theorem beq (rel8 : Byte) : Statement (.beq rel8) := ⟨rfl, rfl, length_bounds _⟩
theorem sbcIzy (zp8 : Byte) : Statement (.sbcIzy zp8) := ⟨rfl, rfl, length_bounds _⟩
theorem sbcZpx (zp8 : Byte) : Statement (.sbcZpx zp8) := ⟨rfl, rfl, length_bounds _⟩
theorem incZpx (zp8 : Byte) : Statement (.incZpx zp8) := ⟨rfl, rfl, length_bounds _⟩
theorem sed : Statement .sed := ⟨rfl, rfl, length_bounds _⟩
theorem sbcAby (abs16 : Word) : Statement (.sbcAby abs16) := ⟨rfl, rfl, length_bounds _⟩
theorem sbcAbx (abs16 : Word) : Statement (.sbcAbx abs16) := ⟨rfl, rfl, length_bounds _⟩
theorem incAbx (abs16 : Word) : Statement (.incAbx abs16) := ⟨rfl, rfl, length_bounds _⟩

end Sys2Proof.Laws.Encoding
end

