-- ==== Sys2Proof/Tests/Slice0.lean ====
section
/-! SUPPORT. Tests of the model and witnesses of the statements. Decode tests: the 16 by 16 grid of 30_encoding.md
R76, one theorem per row of the grid, each word written out from the grid and the formats of R71. Step tests: single
instruction vectors of 95_test_vectors.md. Witnesses: for each statement with hypotheses, a state and operands that
meet them all, clause by clause. -/

namespace Sys2Proof.Tests

open Sys2Proof.Machine Sys2Proof.Claims

/-- The start of a vector (95_test_vectors.md section 0): the state after RESET, the instruction's bytes at `pc`, the
listed bytes of memory, RUNNING. -/
def start (pc : Word) (code : List Byte) (cells : List (Word × Byte)) : State :=
  (cells.foldl (fun s c => s.write c.1 c.2) ((State.reset.setPc pc).writeBytes pc code)).setRun .running

/-- What a field of the next state holds. -/
def fieldAfter {α : Type} (f : State → α) : Host.Outcome State Fault Refusal → Option α
  | .next t => some (f t)
  | .fault _ => none
  | .refused _ => none

/-! ### Well-formedness: a mnemonic with a format that R76 does not list for it is refused -/

/-- "There is no IMM format" (R133). -/
theorem test_wf_refuses_sta_immediate : legalPair .staM .imm = false := by decide
/-- LDX and STX index by Y, LDY and STY by X (R131, R132, R134, R135). -/
theorem test_wf_refuses_wrong_index :
    (legalPair .ldxM .zpx, legalPair .stxM .zpx, legalPair .ldyM .zpy, legalPair .styM .zpy) =
      (false, false, false, false) := by decide
/-- BIT has two memory formats, INC no accumulator format, JSR no indirect format (R76). -/
theorem test_wf_refuses_bit_inc_jsr :
    (legalPair .bitM .imm, legalPair .incM .acc, legalPair .jsrM .ind) = (false, false, false) := by decide
/-- The listed pairs are accepted. -/
theorem test_wf_accepts : (Instr.wf (.stxZpy 0x10), Instr.wf (.jmpInd 0x30FF), Instr.wf .brk) = (true, true, true) := by
  decide

/-! ### Decode: the grid of R76 -/

theorem test_decode_row_0 :
    decode [0x00] = .ok (.brk, []) ∧
    decode [0x01, 0x91] = .ok (.oraIzx 0x91, []) ∧
    decode [0x05, 0x95] = .ok (.oraZp 0x95, []) ∧
    decode [0x06, 0x96] = .ok (.aslZp 0x96, []) ∧
    decode [0x08] = .ok (.php, []) ∧
    decode [0x09, 0x99] = .ok (.oraImm 0x99, []) ∧
    decode [0x0A] = .ok (.aslAcc, []) ∧
    decode [0x0D, 0x34, 0x12] = .ok (.oraAbs 0x1234, []) ∧
    decode [0x0E, 0x34, 0x12] = .ok (.aslAbs 0x1234, []) :=
  ⟨rfl, rfl, rfl, rfl, rfl, rfl, rfl, rfl, rfl⟩

theorem test_decode_row_1 :
    decode [0x10, 0x90] = .ok (.bpl 0x90, []) ∧
    decode [0x11, 0x91] = .ok (.oraIzy 0x91, []) ∧
    decode [0x15, 0x95] = .ok (.oraZpx 0x95, []) ∧
    decode [0x16, 0x96] = .ok (.aslZpx 0x96, []) ∧
    decode [0x18] = .ok (.clc, []) ∧
    decode [0x19, 0x34, 0x12] = .ok (.oraAby 0x1234, []) ∧
    decode [0x1D, 0x34, 0x12] = .ok (.oraAbx 0x1234, []) ∧
    decode [0x1E, 0x34, 0x12] = .ok (.aslAbx 0x1234, []) :=
  ⟨rfl, rfl, rfl, rfl, rfl, rfl, rfl, rfl⟩

theorem test_decode_row_2 :
    decode [0x20, 0x34, 0x12] = .ok (.jsr 0x1234, []) ∧
    decode [0x21, 0x91] = .ok (.andIzx 0x91, []) ∧
    decode [0x24, 0x94] = .ok (.bitZp 0x94, []) ∧
    decode [0x25, 0x95] = .ok (.andZp 0x95, []) ∧
    decode [0x26, 0x96] = .ok (.rolZp 0x96, []) ∧
    decode [0x28] = .ok (.plp, []) ∧
    decode [0x29, 0x99] = .ok (.andImm 0x99, []) ∧
    decode [0x2A] = .ok (.rolAcc, []) ∧
    decode [0x2C, 0x34, 0x12] = .ok (.bitAbs 0x1234, []) ∧
    decode [0x2D, 0x34, 0x12] = .ok (.andAbs 0x1234, []) ∧
    decode [0x2E, 0x34, 0x12] = .ok (.rolAbs 0x1234, []) :=
  ⟨rfl, rfl, rfl, rfl, rfl, rfl, rfl, rfl, rfl, rfl, rfl⟩

theorem test_decode_row_3 :
    decode [0x30, 0x90] = .ok (.bmi 0x90, []) ∧
    decode [0x31, 0x91] = .ok (.andIzy 0x91, []) ∧
    decode [0x35, 0x95] = .ok (.andZpx 0x95, []) ∧
    decode [0x36, 0x96] = .ok (.rolZpx 0x96, []) ∧
    decode [0x38] = .ok (.sec, []) ∧
    decode [0x39, 0x34, 0x12] = .ok (.andAby 0x1234, []) ∧
    decode [0x3D, 0x34, 0x12] = .ok (.andAbx 0x1234, []) ∧
    decode [0x3E, 0x34, 0x12] = .ok (.rolAbx 0x1234, []) :=
  ⟨rfl, rfl, rfl, rfl, rfl, rfl, rfl, rfl⟩

theorem test_decode_row_4 :
    decode [0x40] = .ok (.rti, []) ∧
    decode [0x41, 0x91] = .ok (.eorIzx 0x91, []) ∧
    decode [0x45, 0x95] = .ok (.eorZp 0x95, []) ∧
    decode [0x46, 0x96] = .ok (.lsrZp 0x96, []) ∧
    decode [0x48] = .ok (.pha, []) ∧
    decode [0x49, 0x99] = .ok (.eorImm 0x99, []) ∧
    decode [0x4A] = .ok (.lsrAcc, []) ∧
    decode [0x4C, 0x34, 0x12] = .ok (.jmpAbs 0x1234, []) ∧
    decode [0x4D, 0x34, 0x12] = .ok (.eorAbs 0x1234, []) ∧
    decode [0x4E, 0x34, 0x12] = .ok (.lsrAbs 0x1234, []) :=
  ⟨rfl, rfl, rfl, rfl, rfl, rfl, rfl, rfl, rfl, rfl⟩

theorem test_decode_row_5 :
    decode [0x50, 0x90] = .ok (.bvc 0x90, []) ∧
    decode [0x51, 0x91] = .ok (.eorIzy 0x91, []) ∧
    decode [0x55, 0x95] = .ok (.eorZpx 0x95, []) ∧
    decode [0x56, 0x96] = .ok (.lsrZpx 0x96, []) ∧
    decode [0x58] = .ok (.cli, []) ∧
    decode [0x59, 0x34, 0x12] = .ok (.eorAby 0x1234, []) ∧
    decode [0x5D, 0x34, 0x12] = .ok (.eorAbx 0x1234, []) ∧
    decode [0x5E, 0x34, 0x12] = .ok (.lsrAbx 0x1234, []) :=
  ⟨rfl, rfl, rfl, rfl, rfl, rfl, rfl, rfl⟩

theorem test_decode_row_6 :
    decode [0x60] = .ok (.rts, []) ∧
    decode [0x61, 0x91] = .ok (.adcIzx 0x91, []) ∧
    decode [0x65, 0x95] = .ok (.adcZp 0x95, []) ∧
    decode [0x66, 0x96] = .ok (.rorZp 0x96, []) ∧
    decode [0x68] = .ok (.pla, []) ∧
    decode [0x69, 0x99] = .ok (.adcImm 0x99, []) ∧
    decode [0x6A] = .ok (.rorAcc, []) ∧
    decode [0x6C, 0x34, 0x12] = .ok (.jmpInd 0x1234, []) ∧
    decode [0x6D, 0x34, 0x12] = .ok (.adcAbs 0x1234, []) ∧
    decode [0x6E, 0x34, 0x12] = .ok (.rorAbs 0x1234, []) :=
  ⟨rfl, rfl, rfl, rfl, rfl, rfl, rfl, rfl, rfl, rfl⟩

theorem test_decode_row_7 :
    decode [0x70, 0x90] = .ok (.bvs 0x90, []) ∧
    decode [0x71, 0x91] = .ok (.adcIzy 0x91, []) ∧
    decode [0x75, 0x95] = .ok (.adcZpx 0x95, []) ∧
    decode [0x76, 0x96] = .ok (.rorZpx 0x96, []) ∧
    decode [0x78] = .ok (.sei, []) ∧
    decode [0x79, 0x34, 0x12] = .ok (.adcAby 0x1234, []) ∧
    decode [0x7D, 0x34, 0x12] = .ok (.adcAbx 0x1234, []) ∧
    decode [0x7E, 0x34, 0x12] = .ok (.rorAbx 0x1234, []) :=
  ⟨rfl, rfl, rfl, rfl, rfl, rfl, rfl, rfl⟩

theorem test_decode_row_8 :
    decode [0x81, 0x91] = .ok (.staIzx 0x91, []) ∧
    decode [0x84, 0x94] = .ok (.styZp 0x94, []) ∧
    decode [0x85, 0x95] = .ok (.staZp 0x95, []) ∧
    decode [0x86, 0x96] = .ok (.stxZp 0x96, []) ∧
    decode [0x88] = .ok (.dey, []) ∧
    decode [0x8A] = .ok (.txa, []) ∧
    decode [0x8C, 0x34, 0x12] = .ok (.styAbs 0x1234, []) ∧
    decode [0x8D, 0x34, 0x12] = .ok (.staAbs 0x1234, []) ∧
    decode [0x8E, 0x34, 0x12] = .ok (.stxAbs 0x1234, []) :=
  ⟨rfl, rfl, rfl, rfl, rfl, rfl, rfl, rfl, rfl⟩

theorem test_decode_row_9 :
    decode [0x90, 0x90] = .ok (.bcc 0x90, []) ∧
    decode [0x91, 0x91] = .ok (.staIzy 0x91, []) ∧
    decode [0x94, 0x94] = .ok (.styZpx 0x94, []) ∧
    decode [0x95, 0x95] = .ok (.staZpx 0x95, []) ∧
    decode [0x96, 0x96] = .ok (.stxZpy 0x96, []) ∧
    decode [0x98] = .ok (.tya, []) ∧
    decode [0x99, 0x34, 0x12] = .ok (.staAby 0x1234, []) ∧
    decode [0x9A] = .ok (.txs, []) ∧
    decode [0x9D, 0x34, 0x12] = .ok (.staAbx 0x1234, []) :=
  ⟨rfl, rfl, rfl, rfl, rfl, rfl, rfl, rfl, rfl⟩

theorem test_decode_row_A :
    decode [0xA0, 0x90] = .ok (.ldyImm 0x90, []) ∧
    decode [0xA1, 0x91] = .ok (.ldaIzx 0x91, []) ∧
    decode [0xA2, 0x92] = .ok (.ldxImm 0x92, []) ∧
    decode [0xA4, 0x94] = .ok (.ldyZp 0x94, []) ∧
    decode [0xA5, 0x95] = .ok (.ldaZp 0x95, []) ∧
    decode [0xA6, 0x96] = .ok (.ldxZp 0x96, []) ∧
    decode [0xA8] = .ok (.tay, []) ∧
    decode [0xA9, 0x99] = .ok (.ldaImm 0x99, []) ∧
    decode [0xAA] = .ok (.tax, []) ∧
    decode [0xAC, 0x34, 0x12] = .ok (.ldyAbs 0x1234, []) ∧
    decode [0xAD, 0x34, 0x12] = .ok (.ldaAbs 0x1234, []) ∧
    decode [0xAE, 0x34, 0x12] = .ok (.ldxAbs 0x1234, []) :=
  ⟨rfl, rfl, rfl, rfl, rfl, rfl, rfl, rfl, rfl, rfl, rfl, rfl⟩

theorem test_decode_row_B :
    decode [0xB0, 0x90] = .ok (.bcs 0x90, []) ∧
    decode [0xB1, 0x91] = .ok (.ldaIzy 0x91, []) ∧
    decode [0xB4, 0x94] = .ok (.ldyZpx 0x94, []) ∧
    decode [0xB5, 0x95] = .ok (.ldaZpx 0x95, []) ∧
    decode [0xB6, 0x96] = .ok (.ldxZpy 0x96, []) ∧
    decode [0xB8] = .ok (.clv, []) ∧
    decode [0xB9, 0x34, 0x12] = .ok (.ldaAby 0x1234, []) ∧
    decode [0xBA] = .ok (.tsx, []) ∧
    decode [0xBC, 0x34, 0x12] = .ok (.ldyAbx 0x1234, []) ∧
    decode [0xBD, 0x34, 0x12] = .ok (.ldaAbx 0x1234, []) ∧
    decode [0xBE, 0x34, 0x12] = .ok (.ldxAby 0x1234, []) :=
  ⟨rfl, rfl, rfl, rfl, rfl, rfl, rfl, rfl, rfl, rfl, rfl⟩

theorem test_decode_row_C :
    decode [0xC0, 0x90] = .ok (.cpyImm 0x90, []) ∧
    decode [0xC1, 0x91] = .ok (.cmpIzx 0x91, []) ∧
    decode [0xC4, 0x94] = .ok (.cpyZp 0x94, []) ∧
    decode [0xC5, 0x95] = .ok (.cmpZp 0x95, []) ∧
    decode [0xC6, 0x96] = .ok (.decZp 0x96, []) ∧
    decode [0xC8] = .ok (.iny, []) ∧
    decode [0xC9, 0x99] = .ok (.cmpImm 0x99, []) ∧
    decode [0xCA] = .ok (.dex, []) ∧
    decode [0xCC, 0x34, 0x12] = .ok (.cpyAbs 0x1234, []) ∧
    decode [0xCD, 0x34, 0x12] = .ok (.cmpAbs 0x1234, []) ∧
    decode [0xCE, 0x34, 0x12] = .ok (.decAbs 0x1234, []) :=
  ⟨rfl, rfl, rfl, rfl, rfl, rfl, rfl, rfl, rfl, rfl, rfl⟩

theorem test_decode_row_D :
    decode [0xD0, 0x90] = .ok (.bne 0x90, []) ∧
    decode [0xD1, 0x91] = .ok (.cmpIzy 0x91, []) ∧
    decode [0xD5, 0x95] = .ok (.cmpZpx 0x95, []) ∧
    decode [0xD6, 0x96] = .ok (.decZpx 0x96, []) ∧
    decode [0xD8] = .ok (.cld, []) ∧
    decode [0xD9, 0x34, 0x12] = .ok (.cmpAby 0x1234, []) ∧
    decode [0xDD, 0x34, 0x12] = .ok (.cmpAbx 0x1234, []) ∧
    decode [0xDE, 0x34, 0x12] = .ok (.decAbx 0x1234, []) :=
  ⟨rfl, rfl, rfl, rfl, rfl, rfl, rfl, rfl⟩

theorem test_decode_row_E :
    decode [0xE0, 0x90] = .ok (.cpxImm 0x90, []) ∧
    decode [0xE1, 0x91] = .ok (.sbcIzx 0x91, []) ∧
    decode [0xE4, 0x94] = .ok (.cpxZp 0x94, []) ∧
    decode [0xE5, 0x95] = .ok (.sbcZp 0x95, []) ∧
    decode [0xE6, 0x96] = .ok (.incZp 0x96, []) ∧
    decode [0xE8] = .ok (.inx, []) ∧
    decode [0xE9, 0x99] = .ok (.sbcImm 0x99, []) ∧
    decode [0xEA] = .ok (.nop, []) ∧
    decode [0xEC, 0x34, 0x12] = .ok (.cpxAbs 0x1234, []) ∧
    decode [0xED, 0x34, 0x12] = .ok (.sbcAbs 0x1234, []) ∧
    decode [0xEE, 0x34, 0x12] = .ok (.incAbs 0x1234, []) :=
  ⟨rfl, rfl, rfl, rfl, rfl, rfl, rfl, rfl, rfl, rfl, rfl⟩

theorem test_decode_row_F :
    decode [0xF0, 0x90] = .ok (.beq 0x90, []) ∧
    decode [0xF1, 0x91] = .ok (.sbcIzy 0x91, []) ∧
    decode [0xF5, 0x95] = .ok (.sbcZpx 0x95, []) ∧
    decode [0xF6, 0x96] = .ok (.incZpx 0x96, []) ∧
    decode [0xF8] = .ok (.sed, []) ∧
    decode [0xF9, 0x34, 0x12] = .ok (.sbcAby 0x1234, []) ∧
    decode [0xFD, 0x34, 0x12] = .ok (.sbcAbx 0x1234, []) ∧
    decode [0xFE, 0x34, 0x12] = .ok (.incAbx 0x1234, []) :=
  ⟨rfl, rfl, rfl, rfl, rfl, rfl, rfl, rfl⟩

/-- Operand bytes that are missing are refused by name, as is a byte of R77; what follows an instruction is left. -/
theorem test_decode_refuses : decode [0x8D, 0x00] = .error .truncated ∧ decode [] = .error .truncated ∧
    decode [0x02] = .error (.illegalOpcode 0x02) ∧ decode [0xEA, 0x02] = .ok (.nop, [0x02]) := ⟨rfl, rfl, rfl, rfl⟩

/-- Bits as spec/opcode_table.json numbers them; operand bits above `nbits` are 0. -/
theorem test_decodeTableWord :
    (decodeTableWord 24 0x12348D, decodeTableWord 8 0x8D, decodeTableWord 16 0xFED0, decodeTableWord 8 0x02) =
      (some (.staAbs 0x1234), some (.staAbs 0x0000), some (.bne 0xFE), none) := by decide

/-- A placed instruction is the one that the next step runs. -/
theorem test_withFetchWord :
    fieldAfter (fun t => (t.a, t.pc)) (step (State.reset.withFetchWord 16 0x05A9)) = some (0x05, 0x0002) := by decide

/-! ### One step of each mnemonic -/

/-- ADC ($40),Y (R150, R103). -/
theorem test_adc_1 :
    fieldAfter (fun t => (t.a, t.p))
      (step { start 0x8000 [0x71, 0x40] [(0x0040, 0x01), (0x0041, 0x03), (0x0400, 0x20)] with a := 0xF0, y := 0xFF }) =
      some (0x10, 0x25) := by decide
/-- ADC #$00 (R150). -/
theorem test_adc_2 :
    fieldAfter (fun t => (t.a, t.p))
      (step { start 0x8000 [0x69, 0x00] [] with a := 0x7F, p := 0x25 }) =
      some (0x80, 0xE4) := by decide
/-- AND $0F,X (R152, R97). -/
theorem test_and_1 :
    fieldAfter (fun t => (t.a, t.p))
      (step { start 0x8000 [0x35, 0x0F] [(0x0010, 0x3C)] with a := 0xFF, x := 0x01 }) =
      some (0x3C, 0x24) := by decide
/-- AND #$FF (R152). -/
theorem test_and_2 :
    fieldAfter (fun t => (t.a, t.p))
      (step { start 0x8000 [0x29, 0xFF] [] with a := 0x7F, p := 0xE7 }) =
      some (0x7F, 0x65) := by decide
/-- ASL $0200,X (R170, R180). -/
theorem test_asl_1 :
    fieldAfter (fun t => (t.read 0x0210, t.p))
      (step { start 0x8000 [0x1E, 0x00, 0x02] [(0x0210, 0x00)] with x := 0x10, p := 0x25 }) =
      some (0x00, 0x26) := by decide
/-- ASL $10 (R170, R180). -/
theorem test_asl_2 :
    fieldAfter (fun t => (t.read 0x0010, t.p))
      (step (start 0x8000 [0x06, 0x10] [(0x0010, 0xFF)])) =
      some (0xFE, 0xA5) := by decide
/-- BCC $8004 (R191). -/
theorem test_bcc_1 :
    fieldAfter (fun t => (t.pc, t.p))
      (step { start 0x8000 [0x90, 0x02] [] with p := 0x25 }) =
      some (0x8002, 0x25) := by decide
/-- BCC $000F (R191, R190). -/
theorem test_bcc_2 :
    fieldAfter (fun t => (t.pc, t.p))
      (step (start 0xFFFD [0x90, 0x10] [])) =
      some (0x000F, 0x24) := by decide
/-- BCS $8000 (R192). -/
theorem test_bcs_1 :
    fieldAfter (fun t => (t.pc, t.p))
      (step { start 0x8000 [0xB0, 0xFE] [] with p := 0x25 }) =
      some (0x8000, 0x25) := by decide
/-- BCS $8000 (R192). -/
theorem test_bcs_2 :
    fieldAfter (fun t => (t.pc, t.p))
      (step (start 0x8000 [0xB0, 0xFE] [])) =
      some (0x8002, 0x24) := by decide
/-- BEQ $8017 (R193). -/
theorem test_beq_1 :
    fieldAfter (fun t => (t.pc, t.p))
      (step { start 0x8010 [0xF0, 0x05] [] with p := 0x26 }) =
      some (0x8017, 0x26) := by decide
/-- BEQ $0000 (R193, R190). -/
theorem test_beq_2 :
    fieldAfter (fun t => (t.pc, t.p))
      (step { start 0xFFFE [0xF0, 0x00] [] with p := 0x26 }) =
      some (0x0000, 0x26) := by decide
/-- BIT $10 (R158). -/
theorem test_bit_1 :
    fieldAfter (fun t => (t.p, t.pc))
      (step { start 0x8000 [0x24, 0x10] [(0x0010, 0x00)] with a := 0xFF, p := 0xE5 }) =
      some (0x27, 0x8002) := by decide
/-- BIT $1234 (R158, R99). -/
theorem test_bit_2 :
    fieldAfter (fun t => (t.p, t.pc))
      (step { start 0x8000 [0x2C, 0x34, 0x12] [(0x1234, 0x81)] with a := 0x01 }) =
      some (0xA4, 0x8003) := by decide
/-- BMI $8081 (R194). -/
theorem test_bmi_1 :
    fieldAfter (fun t => (t.pc, t.p))
      (step { start 0x8000 [0x30, 0x7F] [] with p := 0xA4 }) =
      some (0x8081, 0xA4) := by decide
/-- BMI $8081 (R194). -/
theorem test_bmi_2 :
    fieldAfter (fun t => (t.pc, t.p))
      (step (start 0x8000 [0x30, 0x7F] [])) =
      some (0x8002, 0x24) := by decide
/-- BNE $8004 (R195). -/
theorem test_bne_1 :
    fieldAfter (fun t => (t.pc, t.p))
      (step { start 0x800A [0xD0, 0xF8] [] with p := 0x26 }) =
      some (0x800C, 0x26) := by decide
/-- BNE $8004 (R195). -/
theorem test_bne_2 :
    fieldAfter (fun t => (t.pc, t.p))
      (step (start 0x800A [0xD0, 0xF8] [])) =
      some (0x8004, 0x24) := by decide
/-- BPL $7F82 (R196). -/
theorem test_bpl_1 :
    fieldAfter (fun t => (t.pc, t.p))
      (step { start 0x8000 [0x10, 0x80] [] with p := 0xA4 }) =
      some (0x8002, 0xA4) := by decide
/-- BPL $7F82 (R196). -/
theorem test_bpl_2 :
    fieldAfter (fun t => (t.pc, t.p))
      (step (start 0x8000 [0x10, 0x80] [])) =
      some (0x7F82, 0x24) := by decide
/-- BRK (R221). -/
theorem test_brk_1 :
    fieldAfter (fun t => (t.pc, t.run, t.p))
      (step { start 0x8000 [0x00] [] with a := 0x12, sp := 0x80, p := 0xC3 }) =
      some (0x8001, .halted, 0xC3) := by decide
/-- BRK (R221). -/
theorem test_brk_2 :
    fieldAfter (fun t => (t.pc, t.run, t.p))
      (step { start 0x8000 [0x00] [] with p := 0x20 }) =
      some (0x8001, .halted, 0x20) := by decide
/-- BVC $8012 (R197). -/
theorem test_bvc_1 :
    fieldAfter (fun t => (t.pc, t.p))
      (step { start 0x8000 [0x50, 0x10] [] with p := 0x64 }) =
      some (0x8002, 0x64) := by decide
/-- BVC $8002 (R197). -/
theorem test_bvc_2 :
    fieldAfter (fun t => (t.pc, t.p))
      (step (start 0x8000 [0x50, 0x00] [])) =
      some (0x8002, 0x24) := by decide
/-- BVS $8006 (R198). -/
theorem test_bvs_1 :
    fieldAfter (fun t => (t.pc, t.p))
      (step { start 0x8000 [0x70, 0x04] [] with p := 0x64 }) =
      some (0x8006, 0x64) := by decide
/-- BVS $8006 (R198). -/
theorem test_bvs_2 :
    fieldAfter (fun t => (t.pc, t.p))
      (step (start 0x8000 [0x70, 0x04] [])) =
      some (0x8002, 0x24) := by decide
/-- CLC (R214). -/
theorem test_clc_1 :
    fieldAfter (fun t => (t.p, t.pc))
      (step { start 0x8000 [0x18] [] with p := 0x25 }) =
      some (0x24, 0x8001) := by decide
/-- CLC (R214). -/
theorem test_clc_2 :
    fieldAfter (fun t => (t.p, t.pc))
      (step (start 0x8000 [0x18] [])) =
      some (0x24, 0x8001) := by decide
/-- CLD (R215). -/
theorem test_cld_1 :
    fieldAfter (fun t => (t.p, t.pc))
      (step { start 0x8000 [0xD8] [] with p := 0x2C }) =
      some (0x24, 0x8001) := by decide
/-- CLI (R216). -/
theorem test_cli_1 :
    fieldAfter (fun t => (t.p, t.pc))
      (step (start 0x8000 [0x58] [])) =
      some (0x20, 0x8001) := by decide
/-- CLV (R217). -/
theorem test_clv_1 :
    fieldAfter (fun t => (t.p, t.pc))
      (step { start 0x8000 [0xB8] [] with p := 0x64 }) =
      some (0x24, 0x8001) := by decide
/-- CLV (R217). -/
theorem test_clv_2 :
    fieldAfter (fun t => (t.p, t.pc))
      (step { start 0x8000 [0xB8] [] with p := 0xFF }) =
      some (0xBF, 0x8001) := by decide
/-- CMP $0300,Y (R155, R101). -/
theorem test_cmp_1 :
    fieldAfter (fun t => (t.p, t.pc))
      (step { start 0x8000 [0xD9, 0x00, 0x03] [(0x0301, 0x11)] with a := 0x10, y := 0x01 }) =
      some (0xA4, 0x8003) := by decide
/-- CMP #$00 (R155). -/
theorem test_cmp_2 :
    fieldAfter (fun t => (t.p, t.pc))
      (step { start 0x8000 [0xC9, 0x00] [] with a := 0xFF, p := 0x64 }) =
      some (0xE5, 0x8002) := by decide
/-- CPX $10 (R156, R96). -/
theorem test_cpx_1 :
    fieldAfter (fun t => (t.p, t.pc))
      (step { start 0x8000 [0xE4, 0x10] [(0x0010, 0x01)] with x := 0x80 }) =
      some (0x25, 0x8002) := by decide
/-- CPX #$05 (R156). -/
theorem test_cpx_2 :
    fieldAfter (fun t => (t.p, t.pc))
      (step { start 0x8000 [0xE0, 0x05] [] with x := 0x05 }) =
      some (0x27, 0x8002) := by decide
/-- CPY $10 (R157, R96). -/
theorem test_cpy_1 :
    fieldAfter (fun t => (t.p, t.pc))
      (step { start 0x8000 [0xC4, 0x10] [(0x0010, 0x7F)] with y := 0x7F }) =
      some (0x27, 0x8002) := by decide
/-- CPY $0200 (R157, R99). -/
theorem test_cpy_2 :
    fieldAfter (fun t => (t.p, t.pc))
      (step { start 0x8000 [0xCC, 0x00, 0x02] [(0x0200, 0x7F)] with y := 0xFF }) =
      some (0xA5, 0x8003) := by decide
/-- DEC $10,X (R175, R97). -/
theorem test_dec_1 :
    fieldAfter (fun t => (t.read 0x0020, t.p))
      (step { start 0x8000 [0xD6, 0x10] [(0x0020, 0x80)] with x := 0x10 }) =
      some (0x7F, 0x24) := by decide
/-- DEC $0200 (R175). -/
theorem test_dec_2 :
    fieldAfter (fun t => (t.read 0x0200, t.p))
      (step (start 0x8000 [0xCE, 0x00, 0x02] [(0x0200, 0x00)])) =
      some (0xFF, 0xA4) := by decide
/-- DEX (R178). -/
theorem test_dex_1 :
    fieldAfter (fun t => (t.x, t.p))
      (step { start 0x8000 [0xCA] [] with x := 0x00 }) =
      some (0xFF, 0xA4) := by decide
/-- DEX (R178). -/
theorem test_dex_2 :
    fieldAfter (fun t => (t.x, t.p))
      (step { start 0x8000 [0xCA] [] with x := 0x01 }) =
      some (0x00, 0x26) := by decide
/-- DEY (R179). -/
theorem test_dey_1 :
    fieldAfter (fun t => (t.y, t.p))
      (step { start 0x8000 [0x88] [] with y := 0x01 }) =
      some (0x00, 0x26) := by decide
/-- DEY (R179). -/
theorem test_dey_2 :
    fieldAfter (fun t => (t.y, t.p))
      (step { start 0x8000 [0x88] [] with y := 0x80 }) =
      some (0x7F, 0x24) := by decide
/-- EOR ($00,X) (R153, R102). -/
theorem test_eor_1 :
    fieldAfter (fun t => (t.a, t.p))
      (step { start 0x8000 [0x41, 0x00] [(0x0002, 0x00), (0x0003, 0x03), (0x0300, 0xF0)] with a := 0x0F, x := 0x02 }) =
      some (0xFF, 0xA4) := by decide
/-- EOR #$AA (R153). -/
theorem test_eor_2 :
    fieldAfter (fun t => (t.a, t.p))
      (step { start 0x8000 [0x49, 0xAA] [] with a := 0xAA }) =
      some (0x00, 0x26) := by decide
/-- INC $FF,X (R174, R97). -/
theorem test_inc_1 :
    fieldAfter (fun t => (t.read 0x0001, t.p))
      (step { start 0x8000 [0xF6, 0xFF] [(0x0001, 0x00)] with x := 0x02, p := 0x25 }) =
      some (0x01, 0x25) := by decide
/-- INC $0200,X (R174, R100). -/
theorem test_inc_2 :
    fieldAfter (fun t => (t.read 0x02FF, t.p))
      (step { start 0x8000 [0xFE, 0x00, 0x02] [(0x02FF, 0xFE)] with x := 0xFF }) =
      some (0xFF, 0xA4) := by decide
/-- INX (R176). -/
theorem test_inx_1 :
    fieldAfter (fun t => (t.x, t.p))
      (step { start 0x8000 [0xE8] [] with x := 0xFF }) =
      some (0x00, 0x26) := by decide
/-- INX (R176). -/
theorem test_inx_2 :
    fieldAfter (fun t => (t.x, t.p))
      (step { start 0x8000 [0xE8] [] with x := 0x7F }) =
      some (0x80, 0xA4) := by decide
/-- INY (R177). -/
theorem test_iny_1 :
    fieldAfter (fun t => (t.y, t.p))
      (step { start 0x8000 [0xC8] [] with y := 0xFF, p := 0x25 }) =
      some (0x00, 0x27) := by decide
/-- INY (R177). -/
theorem test_iny_2 :
    fieldAfter (fun t => (t.y, t.p))
      (step { start 0x8000 [0xC8] [] with y := 0x7F }) =
      some (0x80, 0xA4) := by decide
/-- JMP ($30FF) (R200). -/
theorem test_jmp_1 :
    fieldAfter (fun t => t.pc)
      (step (start 0x8000 [0x6C, 0xFF, 0x30] [(0x30FF, 0x80), (0x3000, 0x50), (0x3100, 0x40)])) =
      some 0x5080 := by decide
/-- JMP $1234 (R199). -/
theorem test_jmp_2 :
    fieldAfter (fun t => t.pc)
      (step (start 0x8000 [0x4C, 0x34, 0x12] [])) =
      some 0x1234 := by decide
/-- JSR $2000 (R201). -/
theorem test_jsr_1 :
    fieldAfter (fun t => (t.read 0x0100, t.read 0x0101, t.sp, t.pc))
      (step { start 0x8000 [0x20, 0x00, 0x20] [] with sp := 0x01, p := 0xE7 }) =
      some (0x02, 0x80, 0xFF, 0x2000) := by decide
/-- JSR $1234 (R201). -/
theorem test_jsr_2 :
    fieldAfter (fun t => (t.read 0x0100, t.read 0x01FF, t.sp, t.pc))
      (step { start 0x8000 [0x20, 0x34, 0x12] [] with sp := 0x00 }) =
      some (0x80, 0x02, 0xFE, 0x1234) := by decide
/-- LDA ($FE,X) (R130, R102). -/
theorem test_lda_1 :
    fieldAfter (fun t => (t.a, t.p))
      (step { start 0x8000 [0xA1, 0xFE] [(0x00FF, 0x34), (0x0000, 0x12), (0x0100, 0xEE), (0x1234, 0x77)] with x := 0x01 }) =
      some (0x77, 0x24) := by decide
/-- LDA #$00 (R130, R95). -/
theorem test_lda_2 :
    fieldAfter (fun t => (t.a, t.p))
      (step { start 0x8000 [0xA9, 0x00] [] with a := 0x55 }) =
      some (0x00, 0x26) := by decide
/-- LDX $FF,Y (R131, R98). -/
theorem test_ldx_1 :
    fieldAfter (fun t => (t.x, t.p))
      (step { start 0x8000 [0xB6, 0xFF] [(0x0000, 0x80), (0x0100, 0xEE)] with y := 0x01 }) =
      some (0x80, 0xA4) := by decide
/-- LDX $1000,Y (R131, R101). -/
theorem test_ldx_2 :
    fieldAfter (fun t => (t.x, t.p))
      (step { start 0x8000 [0xBE, 0x00, 0x10] [(0x10FF, 0x00)] with y := 0xFF }) =
      some (0x00, 0x26) := by decide
/-- LDY $10,X (R132, R97). -/
theorem test_ldy_1 :
    fieldAfter (fun t => (t.y, t.p))
      (step { start 0x8000 [0xB4, 0x10] [(0x0011, 0xFE)] with x := 0x01 }) =
      some (0xFE, 0xA4) := by decide
/-- LDY #$00 (R132). -/
theorem test_ldy_2 :
    fieldAfter (fun t => (t.y, t.p))
      (step { start 0x8000 [0xA0, 0x00] [] with y := 0x01 }) =
      some (0x00, 0x26) := by decide
/-- LSR $0200 (R171, R180). -/
theorem test_lsr_1 :
    fieldAfter (fun t => (t.read 0x0200, t.p))
      (step { start 0x8000 [0x4E, 0x00, 0x02] [(0x0200, 0x80)] with p := 0xA5 }) =
      some (0x40, 0x24) := by decide
/-- LSR A (R171). -/
theorem test_lsr_2 :
    fieldAfter (fun t => (t.a, t.p))
      (step { start 0x8000 [0x4A] [] with a := 0x01, p := 0xA4 }) =
      some (0x00, 0x27) := by decide
/-- NOP (R222). -/
theorem test_nop_1 :
    fieldAfter (fun t => (t.pc, t.p))
      (step { start 0x8000 [0xEA] [] with p := 0xE7, a := 0x12 }) =
      some (0x8001, 0xE7) := by decide
/-- ORA $0300 (R154, R99). -/
theorem test_ora_1 :
    fieldAfter (fun t => (t.a, t.p))
      (step { start 0x8000 [0x0D, 0x00, 0x03] [(0x0300, 0x01)] with a := 0x10 }) =
      some (0x11, 0x24) := by decide
/-- ORA #$00 (R154). -/
theorem test_ora_2 :
    fieldAfter (fun t => (t.a, t.p))
      (step { start 0x8000 [0x09, 0x00] [] with a := 0x00, p := 0xA4 }) =
      some (0x00, 0x26) := by decide
/-- PHA (R210). -/
theorem test_pha_1 :
    fieldAfter (fun t => (t.read 0x0100, t.sp))
      (step { start 0x8000 [0x48] [] with a := 0x99, sp := 0x00 }) =
      some (0x99, 0xFF) := by decide
/-- PHA (R210). -/
theorem test_pha_2 :
    fieldAfter (fun t => (t.read 0x01FD, t.sp))
      (step { start 0x8000 [0x48] [] with a := 0x00, p := 0xA4 }) =
      some (0x00, 0xFC) := by decide
/-- PHP (R211). -/
theorem test_php_1 :
    fieldAfter (fun t => (t.read 0x0100, t.sp, t.p))
      (step { start 0x8000 [0x08] [] with p := 0xFF, sp := 0x00 }) =
      some (0xFF, 0xFF, 0xFF) := by decide
/-- PHP (R211). -/
theorem test_php_2 :
    fieldAfter (fun t => (t.read 0x01FD, t.sp, t.p))
      (step { start 0x8000 [0x08] [] with p := 0xC3 }) =
      some (0xF3, 0xFC, 0xC3) := by decide
/-- PLA (R212). -/
theorem test_pla_1 :
    fieldAfter (fun t => (t.a, t.sp, t.p))
      (step { start 0x8000 [0x68] [(0x01FD, 0x7F)] with sp := 0xFC, p := 0xA6 }) =
      some (0x7F, 0xFD, 0x24) := by decide
/-- PLA (R212). -/
theorem test_pla_2 :
    fieldAfter (fun t => (t.a, t.sp, t.p))
      (step { start 0x8000 [0x68] [(0x01FD, 0x00)] with sp := 0xFC, a := 0x55 }) =
      some (0x00, 0xFD, 0x26) := by decide
/-- PLP (R213). -/
theorem test_plp_1 :
    fieldAfter (fun t => (t.sp, t.p))
      (step { start 0x8000 [0x28] [(0x01FD, 0x00)] with sp := 0xFC, p := 0xFF }) =
      some (0xFD, 0x00) := by decide
/-- PLP (R213). -/
theorem test_plp_2 :
    fieldAfter (fun t => (t.sp, t.p))
      (step { start 0x8000 [0x28] [(0x01FD, 0xFF)] with sp := 0xFC }) =
      some (0xFD, 0xCF) := by decide
/-- ROL $10,X (R172, R180). -/
theorem test_rol_1 :
    fieldAfter (fun t => (t.read 0x0011, t.p))
      (step { start 0x8000 [0x36, 0x10] [(0x0011, 0xFF)] with x := 0x01, p := 0x25 }) =
      some (0xFF, 0xA5) := by decide
/-- ROL A (R172). -/
theorem test_rol_2 :
    fieldAfter (fun t => (t.a, t.p))
      (step { start 0x8000 [0x2A] [] with a := 0x40, p := 0x25 }) =
      some (0x81, 0xA4) := by decide
/-- ROR $0200 (R173, R180). -/
theorem test_ror_1 :
    fieldAfter (fun t => (t.read 0x0200, t.p))
      (step { start 0x8000 [0x6E, 0x00, 0x02] [(0x0200, 0x00)] with p := 0x25 }) =
      some (0x80, 0xA4) := by decide
/-- ROR A (R173). -/
theorem test_ror_2 :
    fieldAfter (fun t => (t.a, t.p))
      (step { start 0x8000 [0x6A] [] with a := 0x00, p := 0x25 }) =
      some (0x80, 0xA4) := by decide
/-- RTI (R203). -/
theorem test_rti_1 :
    fieldAfter (fun t => (t.p, t.sp, t.pc))
      (step { start 0x8000 [0x40] [(0x01FF, 0x30), (0x0100, 0x00), (0x0101, 0x90)] with sp := 0xFE, p := 0xFF }) =
      some (0x00, 0x01, 0x9000) := by decide
/-- RTI (R203). -/
theorem test_rti_2 :
    fieldAfter (fun t => (t.p, t.sp, t.pc))
      (step { start 0x8000 [0x40] [(0x01FB, 0xF3), (0x01FC, 0x34), (0x01FD, 0x12)] with sp := 0xFA }) =
      some (0xC3, 0xFD, 0x1234) := by decide
/-- RTS (R202). -/
theorem test_rts_1 :
    fieldAfter (fun t => (t.sp, t.pc))
      (step { start 0x8010 [0x60] [(0x01FC, 0x02), (0x01FD, 0x80)] with sp := 0xFB }) =
      some (0xFD, 0x8003) := by decide
/-- RTS (R202). -/
theorem test_rts_2 :
    fieldAfter (fun t => (t.sp, t.pc))
      (step { start 0x8010 [0x60] [(0x01FC, 0x02), (0x01FD, 0x80)] with sp := 0xFB }) =
      some (0xFD, 0x8003) := by decide
/-- SBC $00F0,Y (R151, R101). -/
theorem test_sbc_1 :
    fieldAfter (fun t => (t.a, t.p))
      (step { start 0x8000 [0xF9, 0xF0, 0x00] [(0x0100, 0x03)] with a := 0x0A, y := 0x10, p := 0x25 }) =
      some (0x07, 0x25) := by decide
/-- SBC #$B0 (R151). -/
theorem test_sbc_2 :
    fieldAfter (fun t => (t.a, t.p))
      (step { start 0x8000 [0xE9, 0xB0] [] with a := 0x50, p := 0x25 }) =
      some (0xA0, 0xE4) := by decide
/-- SEC (R218). -/
theorem test_sec_1 :
    fieldAfter (fun t => (t.p, t.pc))
      (step { start 0x8000 [0x38] [] with p := 0x25 }) =
      some (0x25, 0x8001) := by decide
/-- SEC (R218). -/
theorem test_sec_2 :
    fieldAfter (fun t => (t.p, t.pc))
      (step (start 0x8000 [0x38] [])) =
      some (0x25, 0x8001) := by decide
/-- SED (R219). -/
theorem test_sed_1 :
    fieldAfter (fun t => (t.p, t.pc))
      (step (start 0x8000 [0xF8] [])) =
      some (0x2C, 0x8001) := by decide
/-- SEI (R220). -/
theorem test_sei_1 :
    fieldAfter (fun t => (t.p, t.pc))
      (step { start 0x8000 [0x78] [] with p := 0x20 }) =
      some (0x24, 0x8001) := by decide
/-- SEI (R220). -/
theorem test_sei_2 :
    fieldAfter (fun t => (t.p, t.pc))
      (step { start 0x8000 [0x78] [] with p := 0x00 }) =
      some (0x04, 0x8001) := by decide
/-- STA ($10,X) (R133, R102). -/
theorem test_sta_1 :
    fieldAfter (fun t => (t.read 0x0400, t.p))
      (step { start 0x8000 [0x81, 0x10] [(0x000F, 0x00), (0x0010, 0x04)] with a := 0x66, x := 0xFF }) =
      some (0x66, 0x24) := by decide
/-- STA $10 (R133). -/
theorem test_sta_2 :
    fieldAfter (fun t => (t.read 0x0010, t.p))
      (step { start 0x8000 [0x85, 0x10] [] with a := 0x00, p := 0xA4 }) =
      some (0x00, 0xA4) := by decide
/-- STX $10,Y (R134, R98). -/
theorem test_stx_1 :
    fieldAfter (fun t => (t.read 0x0008, t.p))
      (step { start 0x8000 [0x96, 0x10] [] with x := 0x05, y := 0xF8 }) =
      some (0x05, 0x24) := by decide
/-- STX $00 (R134). -/
theorem test_stx_2 :
    fieldAfter (fun t => (t.read 0x0000, t.p))
      (step { start 0x8000 [0x86, 0x00] [] with x := 0x80 }) =
      some (0x80, 0x24) := by decide
/-- STY $F0,X (R135, R97). -/
theorem test_sty_1 :
    fieldAfter (fun t => (t.read 0x0010, t.p))
      (step { start 0x8000 [0x94, 0xF0] [] with x := 0x20, y := 0x07 }) =
      some (0x07, 0x24) := by decide
/-- STY $FF (R135). -/
theorem test_sty_2 :
    fieldAfter (fun t => (t.read 0x00FF, t.p))
      (step { start 0x8000 [0x84, 0xFF] [] with y := 0x07 }) =
      some (0x07, 0x24) := by decide
/-- TAX (R136). -/
theorem test_tax_1 :
    fieldAfter (fun t => (t.x, t.p))
      (step { start 0x8000 [0xAA] [] with a := 0x00, x := 0x55 }) =
      some (0x00, 0x26) := by decide
/-- TAY (R137). -/
theorem test_tay_1 :
    fieldAfter (fun t => (t.y, t.p))
      (step { start 0x8000 [0xA8] [] with a := 0x80 }) =
      some (0x80, 0xA4) := by decide
/-- TSX (R140). -/
theorem test_tsx_1 :
    fieldAfter (fun t => (t.x, t.p))
      (step { start 0x8000 [0xBA] [] with sp := 0x00, x := 0x11 }) =
      some (0x00, 0x26) := by decide
/-- TSX (R140). -/
theorem test_tsx_2 :
    fieldAfter (fun t => (t.x, t.p))
      (step (start 0x8000 [0xBA] [])) =
      some (0xFD, 0xA4) := by decide
/-- TXA (R138). -/
theorem test_txa_1 :
    fieldAfter (fun t => (t.a, t.p))
      (step { start 0x8000 [0x8A] [] with x := 0x7F, a := 0xFF, p := 0xA4 }) =
      some (0x7F, 0x24) := by decide
/-- TXS (R141). -/
theorem test_txs_1 :
    fieldAfter (fun t => (t.sp, t.p))
      (step { start 0x8000 [0x9A] [] with x := 0x00, p := 0xA4 }) =
      some (0x00, 0xA4) := by decide
/-- TXS (R141). -/
theorem test_txs_2 :
    fieldAfter (fun t => (t.sp, t.p))
      (step { start 0x8000 [0x9A] [] with x := 0xFF }) =
      some (0xFF, 0x24) := by decide
/-- TYA (R139). -/
theorem test_tya_1 :
    fieldAfter (fun t => (t.a, t.p))
      (step { start 0x8000 [0x98] [] with y := 0xFF }) =
      some (0xFF, 0xA4) := by decide
/-- byte 0xEB (R231). -/
theorem test_illegal_byte_1 :
    fieldAfter (fun t => (t.pc, t.run))
      (step { start 0x8000 [0xEB, 0x01] [] with a := 0x10, p := 0x25 }) =
      some (0x8001, .faulted (.illegalOpcode 0xEB 0x8000)) := by decide
/-- byte 0xFF (R231). -/
theorem test_illegal_byte_2 :
    fieldAfter (fun t => (t.pc, t.run))
      (step (start 0x1234 [0xFF] [])) =
      some (0x1235, .faulted (.illegalOpcode 0xFF 0x1234)) := by decide

/-! ### Witnesses of the statements' hypotheses, in the order of the statements -/

theorem witness_EncodeOfDecodeIsTheBytes :
    ∃ bytes i rest, decode bytes = .ok (i, rest) ∧ rest ≠ [] := ⟨[0xA9, 0x05, 0x77], .ldaImm 0x05, [0x77], rfl, by simp⟩

theorem witness_InstructionsAreTheOpcodeMap :
    ∃ m rows f b, (m, rows) ∈ opcodeMap ∧ (f, b) ∈ rows :=
  ⟨.adcM, [(.imm, 0x69), (.zp, 0x65), (.zpx, 0x75), (.abs, 0x6D), (.abx, 0x7D), (.aby, 0x79), (.izx, 0x61),
    (.izy, 0x71)], .imm, 0x69, List.mem_cons_self, List.mem_cons_self⟩

/-- Both clauses, each at the first and the last byte of its kind. -/
theorem witness_ExactlyTheListedBytesAreIllegal :
    (0x02 : Byte) ∈ illegalBytes ∧ (0xFF : Byte) ∈ illegalBytes ∧ (0x00 : Byte) ∉ illegalBytes ∧
    (0xFE : Byte) ∉ illegalBytes := by decide

/-- A hook that stops after storing one byte. -/
def stoppingReply : HookReply := ⟨[.writeMem 0x0010 0x2A], .stop⟩

/-- LDA #$05 at 0x8000, RUNNING. -/
def loadFive : State := start 0x8000 [0xA9, 0x05] []

/-- The fetch of `loadFive` decodes, with the identity hook and with a hook that answers. -/
theorem witness_StepRunsTheDecodedInstruction :
    ∃ i rest, loadFive.run = .running ∧ (loadFive.setHook [stoppingReply]).hook ≠ [] ∧ loadFive.hook = [] ∧
      decode [byteAt loadFive loadFive.pc.toNat, byteAt loadFive ((loadFive.pc.toNat + 1) % 65536),
        byteAt loadFive ((loadFive.pc.toNat + 2) % 65536)] = .ok (i, rest) :=
  ⟨.ldaImm 0x05, [0x00], by decide, by decide, by decide, rfl⟩

/-- An instruction that straddles the top of memory. -/
theorem witness_FetchedInstructionIsTheBytesAtPc :
    ∃ s : State, ∃ i rest k, decode s.fetchBytes = .ok (i, rest) ∧ k < i.length ∧ s.pc = 0xFFFF ∧ k = 2 :=
  ⟨start 0xFFFF [0x8D, 0x34, 0x12] [], .staAbs 0x1234, [], 2, rfl, by decide, rfl, rfl⟩

theorem witness_EveryOpcodeByteHasADefinedOutcome :
    (∃ s : State, s.run = .running ∧ byteAt s s.pc.toNat ∈ illegalBytes) ∧
    (∃ s : State, s.run = .running ∧ byteAt s s.pc.toNat = 0x00) ∧
    (∃ s : State, s.run = .running ∧ byteAt s s.pc.toNat ∉ illegalBytes ∧ byteAt s s.pc.toNat ≠ 0x00 ∧ s.hook = []) :=
  ⟨⟨start 0xFFFF [0xFF] [], by decide, by decide⟩, ⟨start 0x8000 [0x00] [], by decide, by decide⟩,
    ⟨loadFive, by decide, by decide, by decide, by decide⟩⟩

theorem witness_NoStepOutsideRunning :
    (∃ s : State, s.pending = [] ∧ s.run = .idle) ∧ (∃ s : State, s.pending = [] ∧ s.run = .halted) ∧
    (∃ s : State, ∃ cause, s.pending = [] ∧ s.run = .faulted cause) :=
  ⟨⟨State.reset, rfl, rfl⟩, ⟨State.reset.setRun .halted, rfl, rfl⟩,
    ⟨State.reset.setRun (.faulted (.illegalOpcode 0x02 0x8000)), _, rfl, rfl⟩⟩

theorem witness_ResolverGivesTheEffectiveAddress :
    (∃ m : Operand, m ≠ .noneAddressing) ∧ (∃ m : Operand, m = .noneAddressing) :=
  ⟨⟨.zpx 0xFF, by decide⟩, ⟨_, rfl⟩⟩

theorem witness_ResolvedAddressComesFromTheBytesAtPc :
    ∃ s : State, ∃ i rest, decode s.fetchBytes = .ok (i, rest) ∧ i.operand ≠ .noneAddressing :=
  ⟨start 0xFFFE [0xB1, 0xFF] [], .ldaIzy 0xFF, [0x00], rfl, by decide⟩

/-- The last fetched byte, and the stored byte among the fetched ones. -/
theorem witness_StoresAreSeenByTheNextFetch :
    ∃ (s : State) (addr : Word) (k : Nat), k < 3 ∧ (s.pc.toNat + k) % 65536 = addr.toNat :=
  ⟨State.reset.setPc 0xFFFF, 0x0001, 2, by decide, by decide⟩

theorem witness_LoadsFillTheRegister :
    (∃ i : Instr, i.mnemonic = .ldaM) ∧ (∃ i : Instr, i.mnemonic = .ldxM) ∧ (∃ i : Instr, i.mnemonic = .ldyM) :=
  ⟨⟨.ldaIzy 0xFF, rfl⟩, ⟨.ldxZpy 0xFF, rfl⟩, ⟨.ldyAbx 0xFFFF, rfl⟩⟩

theorem witness_StoresWriteTheRegister :
    (∃ (i : Instr) (s : State) (v : Byte), i.mnemonic = .staM ∧ v = s.a) ∧
    (∃ (i : Instr) (s : State) (v : Byte), i.mnemonic = .stxM ∧ v = s.x) ∧
    (∃ (i : Instr) (s : State) (v : Byte), i.mnemonic = .styM ∧ v = s.y) :=
  ⟨⟨.staAbx 0xFFFF, State.reset, _, rfl, rfl⟩, ⟨.stxZpy 0xFF, State.reset, _, rfl, rfl⟩,
    ⟨.styZp 0x00, State.reset, _, rfl, rfl⟩⟩

theorem witness_AdcAddsWithCarry : ∃ i : Instr, i.mnemonic = .adcM := ⟨.adcImm 0xFF, rfl⟩

theorem witness_SbcSubtractsWithBorrow : ∃ i : Instr, i.mnemonic = .sbcM := ⟨.sbcIzx 0xFF, rfl⟩

theorem witness_LogicCombinesTheAccumulator :
    (∃ (i : Instr) (s : State) (r : Byte), i.mnemonic = .andM ∧
      logicResult s.a (operandByte s i.operand) i.mnemonic = some r) ∧
    (∃ (i : Instr) (s : State) (r : Byte), i.mnemonic = .eorM ∧
      logicResult s.a (operandByte s i.operand) i.mnemonic = some r) ∧
    (∃ (i : Instr) (s : State) (r : Byte), i.mnemonic = .oraM ∧
      logicResult s.a (operandByte s i.operand) i.mnemonic = some r) :=
  ⟨⟨.andImm 0x8F, State.reset, _, rfl, rfl⟩, ⟨.eorAby 0xFFFF, State.reset, _, rfl, rfl⟩,
    ⟨.oraZpx 0xFF, State.reset, _, rfl, rfl⟩⟩

theorem witness_ComparesSetCarryZeroNegative :
    (∃ (i : Instr) (s : State) (r : Byte), i.mnemonic = .cmpM ∧ comparedRegister s i.mnemonic = some r) ∧
    (∃ (i : Instr) (s : State) (r : Byte), i.mnemonic = .cpxM ∧ comparedRegister s i.mnemonic = some r) ∧
    (∃ (i : Instr) (s : State) (r : Byte), i.mnemonic = .cpyM ∧ comparedRegister s i.mnemonic = some r) :=
  ⟨⟨.cmpIzy 0xFF, State.reset, _, rfl, rfl⟩, ⟨.cpxImm 0x00, State.reset, _, rfl, rfl⟩,
    ⟨.cpyAbs 0xFFFF, State.reset, _, rfl, rfl⟩⟩

theorem witness_BitTestsMemoryAgainstA : ∃ i : Instr, i.mnemonic = .bitM := ⟨.bitAbs 0xFFFF, rfl⟩

theorem witness_ShiftsOfTheAccumulator :
    ∀ i ∈ [Instr.aslAcc, .lsrAcc, .rolAcc, .rorAcc], ∃ (s : State) (w : Nat) (out : Bool), i.format = .acc ∧
      shiftResult s.a.toNat (carryIn s) i.mnemonic = some (w, out) := by
  intro i hi
  simp only [List.mem_cons, List.not_mem_nil, or_false] at hi
  rcases hi with rfl | rfl | rfl | rfl <;> exact ⟨State.reset, _, _, rfl, rfl⟩

theorem witness_ShiftsOfMemory :
    ∀ i ∈ [Instr.aslZp 0xFF, .lsrZpx 0xFF, .rolAbs 0xFFFF, .rorAbx 0xFFFF],
      ∃ (s : State) (w : Nat) (out : Bool), i.format ≠ .acc ∧
        shiftResult (byteAt s (effectiveAddress s i.operand)).toNat (carryIn s) i.mnemonic = some (w, out) := by
  intro i hi
  simp only [List.mem_cons, List.not_mem_nil, or_false] at hi
  rcases hi with rfl | rfl | rfl | rfl <;> exact ⟨State.reset, _, _, by simp [Instr.format], rfl⟩

theorem witness_IncAndDecOfMemory :
    (∃ (i : Instr) (d : Nat), i.mnemonic = .incM ∧ d = 1) ∧ (∃ (i : Instr) (d : Nat), i.mnemonic = .decM ∧ d = 255) :=
  ⟨⟨.incAbx 0xFFFF, 1, rfl, rfl⟩, ⟨.decZpx 0xFF, 255, rfl, rfl⟩⟩

/-- A branch that is taken and one that is not, each at an end of the offset's range. -/
theorem witness_BranchesFollowTheirFlag :
    (∃ (i : Instr) (s : State) (k : Nat) (want : Bool) (op off : Byte),
      branchTest i.mnemonic = some (k, want) ∧ encode i = [op, off] ∧ s.p.getLsbD k = want) ∧
    (∃ (i : Instr) (s : State) (k : Nat) (want : Bool) (op off : Byte),
      branchTest i.mnemonic = some (k, want) ∧ encode i = [op, off] ∧ s.p.getLsbD k ≠ want) :=
  ⟨⟨.bcc 0x80, State.reset, _, _, _, _, rfl, rfl, by decide⟩, ⟨.bmi 0x7F, State.reset, _, _, _, _, rfl, rfl, by decide⟩⟩

theorem witness_PushesStoreOneByte :
    (∃ (i : Instr) (s : State) (v : Byte), i = .pha ∧ v = s.a) ∧
    (∃ (i : Instr) (s : State) (v : Byte), i = .php ∧ v = s.p ||| 0x30) :=
  ⟨⟨_, State.reset.setSp 0x00, _, rfl, rfl⟩, ⟨_, State.reset, _, rfl, rfl⟩⟩

theorem witness_FlagInstructionsWriteOneBit :
    ∀ i ∈ [Instr.clc, .cld, .cli, .clv, .sec, .sed, .sei], ∃ k b, flagWritten i.mnemonic = some (k, b) := by
  intro i hi
  simp only [List.mem_cons, List.not_mem_nil, or_false] at hi
  rcases hi with rfl | rfl | rfl | rfl | rfl | rfl | rfl <;> exact ⟨_, _, rfl⟩

theorem witness_BrkHaltsAndNopAdvances :
    (∃ s : State, s.run = .running ∧ byteAt s s.pc.toNat = 0x00) ∧
    (∃ s : State, s.run = .running ∧ byteAt s s.pc.toNat = 0xEA) :=
  ⟨⟨start 0xFFFF [0x00] [], by decide, by decide⟩, ⟨start 0xFFFF [0xEA] [], by decide, by decide⟩⟩

/-- A storing form, and an address beside the stored byte. -/
theorem witness_OnlyStoredBytesChange :
    ∃ (i : Instr) (s t : State) (n : Nat), exec i s = .next t ∧ n ∉ (storedAddresses i s).map BitVec.toNat ∧
      storedAddresses i s ≠ [] :=
  ⟨.staAbs 0x0200, State.reset, _, 0x0201, rfl, by decide, by decide⟩

theorem witness_RegistersHaveOnlyTheirListedWriters :
    ∃ (i : Instr) (s t : State), exec i s = .next t ∧ writesA i = false ∧ writesX i = false ∧ writesY i = false ∧
      writesSp i = false :=
  ⟨.cmpImm 0xFF, State.reset, _, rfl, rfl, rfl, rfl, rfl⟩

theorem witness_FlagsHaveOnlyTheirListedWriters :
    ∃ (i : Instr) (s t : State) (k : Nat), exec i s = .next t ∧ k < 8 ∧ i.mnemonic ∉ flagWriters k :=
  ⟨.cmpImm 0xFF, State.reset, _, 6, rfl, by decide, by decide⟩

theorem witness_PcAdvancesPastTheInstruction :
    (∃ i : Instr, writesPc i = false) ∧
    (∃ (i : Instr) (s : State), ∃ k want, branchTest i.mnemonic = some (k, want) ∧ s.p.getLsbD k ≠ want) :=
  ⟨⟨.staAbs 0xFFFF, rfl⟩, ⟨.beq 0x80, State.reset, _, _, rfl, by decide⟩⟩

theorem witness_NoInstructionFaults : (∃ i : Instr, i ≠ .brk) ∧ (∃ i : Instr, i = .brk) :=
  ⟨⟨.rti, by decide⟩, ⟨_, rfl⟩⟩

theorem witness_BreakBitsAreUnobservable :
    ∃ s s' : State, s.run = .running ∧ s.hook = [] ∧ SameBut [4, 5] s s' ∧ s ≠ s' :=
  ⟨loadFive, { loadFive with p := 0x14 }, by decide, by decide, ⟨rfl, by decide⟩, by decide⟩

theorem witness_InterruptAndDecimalBitsHaveNoFunction :
    ∃ (i : Instr) (s s' : State), i ≠ .php ∧ SameBut [2, 3] s s' ∧ s ≠ s' :=
  ⟨.adcImm 0x09, State.reset, { State.reset with p := 0x28 }, by decide, ⟨rfl, by decide⟩, by decide⟩

theorem witness_EveryStepKeepsAGoodState :
    ∃ s t : State, s.good = true ∧ step s = .next t :=
  ⟨{ State.reset with pending := [.reset] }, _, by decide, rfl⟩

theorem witness_ResetEventSetsTheResetValues :
    ∃ (s : State) (rest : List HostEvent), s.run ≠ .running ∧ s.pending = .reset :: rest :=
  ⟨{ State.reset with pending := [.reset], run := .faulted (.illegalOpcode 0x02 0x8000) }, _, by decide, rfl⟩

theorem witness_PowerOnCreatesTheState :
    ∃ (s : State) (rest : List HostEvent), s.run ≠ .running ∧ s.pending = .powerOn :: rest :=
  ⟨{ State.reset with pending := [.powerOn] }, _, by decide, rfl⟩

/-- The longest image that is accepted and the shortest that is refused. -/
theorem witness_LoadWritesImageThenVector :
    (∃ (s : State) (image : List Byte) (rest : List HostEvent), s.run ≠ .running ∧ s.pending = .load image :: rest ∧
      image.length = 0x8000) ∧
    (∃ (s : State) (image : List Byte) (rest : List HostEvent), s.run ≠ .running ∧ s.pending = .load image :: rest ∧
      image.length = 0x8001) :=
  ⟨⟨{ State.reset with pending := [.load (List.replicate 0x8000 0)] }, _, _, by simp [State.reset], rfl,
      List.length_replicate⟩,
    ⟨{ State.reset with pending := [.load (List.replicate 0x8001 0)] }, _, _, by simp [State.reset], rfl,
      List.length_replicate⟩⟩

theorem witness_RunNeedsAnArmedMachine :
    (∃ (s : State) (replies : List HookReply) (rest : List HostEvent), s.pending = .run replies :: rest ∧
      s.run = .idle ∧ s.armed = true) ∧
    (∃ (s : State) (replies : List HookReply) (rest : List HostEvent), s.pending = .run replies :: rest ∧
      s.run = .halted ∧ s.armed = true) ∧
    (∃ (s : State) (replies : List HookReply) (rest : List HostEvent), s.pending = .run replies :: rest ∧
      s.run = .idle ∧ s.armed = false) ∧
    (∃ (s : State) (replies : List HookReply) (rest : List HostEvent), ∃ cause, s.pending = .run replies :: rest ∧
      s.run = .faulted cause) :=
  ⟨⟨{ State.reset with pending := [.run []] }, _, _, rfl, rfl, rfl⟩,
    ⟨{ State.reset with pending := [.run []], run := .halted }, _, _, rfl, rfl, rfl⟩,
    ⟨{ State.reset with pending := [.run []], armed := false }, _, _, rfl, rfl, rfl⟩,
    ⟨{ State.reset with pending := [.run []], run := .faulted .invalidAddressingMode }, _, _, _, rfl, rfl⟩⟩

theorem witness_LoadResetRunStartsAtTheLoadBase :
    ∃ (s : State) (image : List Byte) (replies : List HookReply) (rest : List HostEvent), s.run ≠ .running ∧
      image.length ≤ 0x8000 ∧ s.pending = .load image :: .reset :: .run replies :: rest :=
  ⟨{ State.reset with pending := [.load [0xA9, 0x05, 0x00], .reset, .run [stoppingReply]] }, _, _, _, by decide,
    by decide, rfl⟩

theorem witness_HookAnswersEndOrContinueTheRun :
    ∀ answer : HookAnswer, ∃ (s t : State) (i : Instr) (rest : List Byte) (r : HookReply) (replies : List HookReply),
      s.run = .running ∧ s.hook = r :: replies ∧ decode s.fetchBytes = .ok (i, rest) ∧ i ≠ .brk ∧
      exec i s = .next t ∧ r.answer = answer := by
  intro answer
  have run : ∀ a, (loadFive.setHook [⟨[], a⟩]).run = .running := by intro a; cases a <;> decide
  have bytes : ∀ a, decode (loadFive.setHook [⟨[], a⟩]).fetchBytes = .ok (.ldaImm 0x05, [0x00]) := by
    intro a
    cases a <;> rfl
  exact ⟨loadFive.setHook [⟨[], answer⟩], _, .ldaImm 0x05, [0x00], _, _, run answer, rfl, bytes answer, by decide, rfl, rfl⟩

theorem witness_HostAccessesHaveNoSideEffect :
    ∃ (t : State) (what : HostAccess) (rest : List HostEvent), t.run ≠ .running ∧ t.pending = .access what :: rest :=
  ⟨{ State.reset with pending := [.access (.writeReg .x 0x1FF)] }, _, _, by decide, rfl⟩

end Sys2Proof.Tests
end

section
/-! The decoder read backwards, the fetch, and `step` said once by run state: facts for the proofs about the state
(10_state.md R12, R27, 30_encoding.md R70 to R77). -/

namespace Sys2Proof.Laws

open Sys2Proof.Machine Sys2Proof.Claims

/-! ### The decoder -/

/-- What an entry makes of its operand bytes is encoded as the opcode byte and those bytes (R71, R73). -/
def EntryEncodes (opcode : Byte) : Entry → Prop
  | .plain i => encode i = [opcode]
  | .byte f => ∀ v, encode (f v) = [opcode, v]
  | .word f => ∀ w, encode (f w) = opcode :: wordBytes w

theorem tableRow_encodes (n : Nat) : ∀ c ∈ tableRow n, EntryEncodes c.1 c.2 := by
  rcases Nat.lt_or_ge n 16 with hn | hn
  · interval_cases n <;>
      simp only [tableRow, List.forall_mem_cons, EntryEncodes, List.not_mem_nil, false_imp_iff, implies_true,
        and_true] <;>
      and_intros <;> intros <;> rfl
  · have : tableRow n = [] := by
      unfold tableRow
      split <;> first | omega | rfl
    simp [this]

theorem entryOf_encodes (opcode : Byte) (e : Entry) (h : entryOf opcode = some e) : EntryEncodes opcode e := by
  obtain ⟨before, after, hrow, -⟩ := List.lookup_eq_some_iff.mp h
  exact tableRow_encodes (opcode.toNat / 16) (opcode, e) (by simp [hrow])

theorem encode_of_take (opcode : Byte) (e : Entry) (bytes : List Byte) (i : Instr) (rest : List Byte)
    (he : EntryEncodes opcode e) (h : e.take bytes = .ok (i, rest)) : opcode :: bytes = encode i ++ rest := by
  match e, bytes, h with
  | .plain _, _, rfl => simp [show encode i = [opcode] from he]
  | .byte f, b :: _, rfl => simp [show encode (f b) = [opcode, b] from he b]
  | .word f, lo :: hi :: _, rfl =>
    simp [show encode (f (joinBytes hi lo)) = opcode :: wordBytes (joinBytes hi lo) from he _, wordBytes]

/-- The decoder drops no byte: what it accepts is the encoding of the instruction it gives, then the rest. -/
theorem encode_of_decode (bytes : List Byte) (i : Instr) (rest : List Byte) (h : decode bytes = .ok (i, rest)) :
    bytes = encode i ++ rest := by
  cases bytes with
  | nil => cases h
  | cons opcode tail =>
    cases he : entryOf opcode with
    | none => simp [decode, he] at h
    | some e => exact encode_of_take opcode e tail i rest (entryOf_encodes opcode e he) (by simpa [decode, he] using h)

theorem encode_length (i : Instr) : (encode i).length = i.length := by
  cases i <;> rfl

/-- A byte has no entry exactly when R77 lists it: a finite check each way over the table. -/
theorem entryOf_eq_none_iff (opcode : Byte) : entryOf opcode = none ↔ opcode ∈ illegalBytes := by
  have listed : ∀ b : Byte, (entryOf b).isNone → illegalBytes.contains b := by decide
  have unentered : ∀ b ∈ illegalBytes, (entryOf b).isNone := by decide
  constructor
  · intro h
    simpa using listed opcode (by simp [h])
  · intro h
    simpa using unentered opcode h

/-- On three bytes the decoder fails on the opcode byte only: no instruction is longer. -/
theorem illegal_of_decode_error (opcode b1 b2 : Byte) (e : DecodeError)
    (h : decode [opcode, b1, b2] = .error e) : opcode ∈ illegalBytes := by
  rw [← entryOf_eq_none_iff]
  cases he : entryOf opcode with
  | none => rfl
  | some entry => cases entry <;> simp [decode, he, Entry.take] at h

/-! ### The fetch -/

theorem fetchBytes_getElem? (s : State) (k : Nat) (hk : k < 3) :
    s.fetchBytes[k]? = some (byteAt s ((s.pc.toNat + k) % 65536)) := by
  have hpc := s.pc.isLt
  interval_cases k <;> simp [State.fetchBytes, read_eq, byteAt, Nat.mod_eq_of_lt hpc]

/-! ### The step -/

theorem step_running (s : State) (h : s.run = .running) : step s = engineStep s := by
  simp [step, h]

/-- Outside RUNNING the next pending host event is taken. -/
theorem step_of_pending (s : State) (e : HostEvent) (rest : List HostEvent) (hrun : s.run ≠ .running)
    (hp : s.pending = e :: rest) : step s = .next ((s.setPending rest).hostEvent e) := by
  simp [step, hrun, hostStep, hp]

/-- Outside RUNNING, with no host event pending, there is no next state. -/
theorem step_ne_next_of_no_pending (s t : State) (hrun : s.run ≠ .running) (hp : s.pending = []) :
    step s ≠ .next t := by
  simp only [step, hrun, if_false, hostStep, hp]
  cases s.run <;> simp

/-- A step in RUNNING whose opcode byte has an entry. -/
theorem engineStep_of_decode (s : State) (i : Instr) (rest : List Byte) (h : decode s.fetchBytes = .ok (i, rest)) :
    engineStep s = .next ((formOf i).run s).afterInstruction := by
  simp [engineStep, h, exec_eq_form]

/-- A step in RUNNING on an illegal opcode byte. -/
theorem engineStep_of_decode_error (s : State) (e : DecodeError) (h : decode s.fetchBytes = .error e) :
    engineStep s = .next (s.pastOpcode.raise (.illegalOpcode (s.read s.pc) s.pc)) := by
  simp [engineStep, h]

/-- What a step in RUNNING can do: run an instruction and then call the hook, or raise IllegalOpcode on a listed
byte. -/
theorem engineStep_cases (s : State) :
    (∃ i rest, decode s.fetchBytes = .ok (i, rest) ∧
      engineStep s = .next ((formOf i).run s).afterInstruction) ∨
    (s.read s.pc ∈ illegalBytes ∧
      engineStep s = .next (s.pastOpcode.raise (.illegalOpcode (s.read s.pc) s.pc))) := by
  cases h : decode s.fetchBytes with
  | ok decoded => exact .inl ⟨decoded.1, decoded.2, rfl, engineStep_of_decode s _ _ h⟩
  | error e => exact .inr ⟨illegal_of_decode_error _ _ _ e h, engineStep_of_decode_error s e h⟩

theorem afterInstruction_of_hook_nil (t : State) (h : t.hook = []) : t.afterInstruction = t := by
  simp [State.afterInstruction, State.callHook, h]

end Sys2Proof.Laws
end

section
/-! What the forms of Laws/Forms.lean leave unchanged: the run state, the canonical form of memory, the registers and
the bits of P (10_state.md R10, R14, R17 to R24, R27). -/

namespace Sys2Proof.Laws

open Sys2Proof.Machine Sys2Proof.Claims

/-- No instruction's form resolves NoneAddressing (60_exceptions.md R232). -/
theorem operand_ne_noneAddressing (i : Instr) : (formOf i).operand? ≠ some .noneAddressing :=
  fun h => (operand_of_form i _ h).2.1 rfl

/-- The address that the lemmas of Laws/Operations.lean ask for to say what a form does. -/
theorem exists_effective_address (f : Form) (s : State) (hop : f.operand? ≠ some .noneAddressing) :
    ∃ ea, ∀ m, f.operand? = some m → m.resolve s.pastOpcode = .ok ea := by
  cases hf : f.operand? with
  | none => exact ⟨0, by simp⟩
  | some m =>
    obtain ⟨ea, hea⟩ := resolve_ok m s.pastOpcode fun e => hop (e ▸ hf)
    exact ⟨ea, by simpa using hea⟩

theorem formOf_eq_halt_iff (i : Instr) : formOf i = .halt ↔ i = .brk := by
  cases i <;> simp [formOf]

/-! ### The run state and the host's fields -/

/-- A form other than BRK's leaves the run state, `armed` and the host's fields as they are. -/
theorem run_keeps (f : Form) (s : State) (hop : f.operand? ≠ some .noneAddressing) (hf : f ≠ .halt) :
    (f.run s).run = s.run ∧ (f.run s).armed = s.armed ∧ (f.run s).hook = s.hook ∧
    (f.run s).pending = s.pending ∧ (f.run s).report = s.report := by
  cases h : f.operand? with
  | none => exact run_keeps_of_no_operand f s h hf
  | some m =>
    obtain ⟨hrun, -, harmed, hhook, hpending, hreport⟩ := run_keeps_of_operand f s m h fun e => hop (e ▸ h)
    exact ⟨hrun, harmed, hhook, hpending, hreport⟩

/-- Every instruction keeps the run state, except that BRK halts, and leaves `armed` and the host's fields. -/
theorem formOf_run_keeps (i : Instr) (s : State) :
    ((formOf i).run s).run = (if i = .brk then .halted else s.run) ∧ ((formOf i).run s).armed = s.armed ∧
    ((formOf i).run s).hook = s.hook ∧ ((formOf i).run s).pending = s.pending ∧
    ((formOf i).run s).report = s.report := by
  by_cases hi : i = .brk
  · subst hi
    exact ⟨rfl, rfl, rfl, rfl, rfl⟩
  · simpa [hi] using run_keeps (formOf i) s (operand_ne_noneAddressing i) (mt (formOf_eq_halt_iff i).mp hi)

/-- Under the identity hook a step in RUNNING is the instruction alone. -/
theorem engineStep_of_identity_hook (s : State) (i : Instr) (rest : List Byte) (hhook : s.hook = [])
    (h : decode s.fetchBytes = .ok (i, rest)) : engineStep s = .next ((formOf i).run s) := by
  obtain ⟨-, -, hkept, -⟩ := formOf_run_keeps i s
  rw [engineStep_of_decode s i rest h, afterInstruction_of_hook_nil _ (hkept.trans hhook)]

/-! ### Memory -/

/-- A form keeps memory in its canonical form: it writes bytes at addresses, or nothing. -/
theorem wf_run (f : Form) (s : State) (hop : f.operand? ≠ some .noneAddressing) (h : Memory.wf s.mem = true) :
    Memory.wf (f.run s).mem = true := by
  obtain ⟨ea, hea⟩ := exists_effective_address f s hop
  cases f with
  | store r m =>
    rw [Form.run, storeForm_eq s m ea (hea m rfl)]
    exact wf_write _ _ _ ea.isLt h
  | modify g m =>
    rw [Form.run, readModifyWrite_eq s m ea (hea m rfl)]
    exact wf_write _ _ _ ea.isLt h
  | push value => exact wf_write _ _ _ (stackAddr s.sp).isLt h
  | call target =>
    rw [Form.run, callSubroutine_eq, push16_eq]
    exact wf_write _ _ _ (stackAddr (s.sp - 1)).isLt (wf_write _ _ _ (stackAddr s.sp).isLt h)
  | load r m =>
    rw [Form.run, loadForm_eq s m ea (hea m rfl)]
    cases r <;> exact h
  | accumulator g m =>
    rw [Form.run, accumulatorForm_eq s m ea (hea m rfl)]
    exact h
  | compare r m =>
    rw [Form.run, compareForm_eq s m ea (hea m rfl)]
    exact h
  | bitTest m =>
    rw [Form.run, bitTestForm_eq s m ea (hea m rfl)]
    exact h
  | transfer source r => cases r <;> exact h
  | index g r => cases r <;> exact h
  | branch g want off =>
    rw [Form.run, branchForm_eq]
    exact h
  | retInt =>
    rw [Form.run, returnFromInterrupt_eq]
    exact h
  | moveToSp | shiftA g | jump target | jumpIndirect ptr | ret | pullA | pullP | flag g b | halt | nop => exact h

/-! ### Registers -/

theorem reg_setReg (s : State) (r r' : Reg) (v : Byte) :
    (s.setReg r' v).reg r = if r = r' then v else s.reg r := by
  cases r <;> cases r' <;> rfl

theorem reg_with_p_pc (s : State) (r : Reg) (p : Byte) (pc : Word) :
    ({ s with p := p, pc := pc } : State).reg r = s.reg r := by
  cases r <;> rfl

/-- The register a form writes, if it writes one. -/
def Form.target? : Form → Option Reg
  | .load r _ | .transfer _ r | .index _ r => some r
  | .accumulator _ _ | .shiftA _ | .pullA => some .a
  | _ => none

/-- A form writes no general register but its target. -/
theorem reg_run_of_ne_target (f : Form) (s : State) (r : Reg) (hop : f.operand? ≠ some .noneAddressing)
    (ht : f.target? ≠ some r) : (f.run s).reg r = s.reg r := by
  obtain ⟨ea, hea⟩ := exists_effective_address f s hop
  cases f with
  | load r' m =>
    have hr : r ≠ r' := fun e => ht (e ▸ rfl)
    rw [Form.run, loadForm_eq s m ea (hea m rfl), reg_with_p_pc, reg_setReg, if_neg hr]
  | transfer source r' =>
    have hr : r ≠ r' := fun e => ht (e ▸ rfl)
    rw [Form.run, transferForm_eq, reg_with_p_pc, reg_setReg, if_neg hr]
  | index g r' =>
    have hr : r ≠ r' := fun e => ht (e ▸ rfl)
    rw [Form.run, onIndex_eq, reg_with_p_pc, reg_setReg, if_neg hr]
  | accumulator g m =>
    rw [Form.run, accumulatorForm_eq s m ea (hea m rfl)]
    cases r with
    | a => exact absurd rfl ht
    | x | y => rfl
  | shiftA g | pullA =>
    cases r with
    | a => exact absurd rfl ht
    | x | y => rfl
  | store r' m =>
    rw [Form.run, storeForm_eq s m ea (hea m rfl)]
    cases r <;> rfl
  | compare r' m =>
    rw [Form.run, compareForm_eq s m ea (hea m rfl)]
    cases r <;> rfl
  | bitTest m =>
    rw [Form.run, bitTestForm_eq s m ea (hea m rfl)]
    cases r <;> rfl
  | modify g m =>
    rw [Form.run, readModifyWrite_eq s m ea (hea m rfl)]
    cases r <;> rfl
  | branch g want off =>
    rw [Form.run, branchForm_eq]
    cases r <;> rfl
  | retInt =>
    rw [Form.run, returnFromInterrupt_eq]
    cases r <;> rfl
  | call target =>
    rw [Form.run, callSubroutine_eq, push16_eq]
    cases r <;> rfl
  | moveToSp | jump target | jumpIndirect ptr | ret | push value | pullP | flag g b | halt | nop => cases r <;> rfl

/-- The forms that write SP. -/
def Form.movesSp : Form → Bool
  | .moveToSp | .call _ | .ret | .retInt | .push _ | .pullA | .pullP => true
  | _ => false

theorem sp_run_of_not_movesSp (f : Form) (s : State) (hop : f.operand? ≠ some .noneAddressing)
    (h : f.movesSp = false) : (f.run s).sp = s.sp := by
  cases hf : f.operand? with
  | some m => exact (run_keeps_of_operand f s m hf fun e => hop (e ▸ hf)).2.1
  | none =>
    cases f with
    | load r m | store r m | accumulator g m | compare r m | bitTest m | modify g m => cases hf
    | moveToSp | call target | ret | retInt | push value | pullA | pullP => cases h
    | transfer source r => cases r <;> rfl
    | index g r => cases r <;> rfl
    | branch g want off => rw [Form.run, branchForm_eq]
    | shiftA g | jump target | jumpIndirect ptr | flag g b | halt | nop => rfl

/-- R10 and R14 list every instruction whose form writes the register. -/
theorem writes_of_target (i : Instr) :
    ((formOf i).target? = some .a → writesA i = true) ∧ ((formOf i).target? = some .x → writesX i = true) ∧
    ((formOf i).target? = some .y → writesY i = true) ∧ ((formOf i).movesSp = true → writesSp i = true) := by
  cases i <;> simp [formOf, Form.target?, Form.movesSp, writesA, writesX, writesY, writesSp, Instr.mnemonic,
    Instr.format]

end Sys2Proof.Laws
end

section
/-! The good state (Safety.lean) is kept by every part of a step: the instruction, the hook, the host's events. -/

namespace Sys2Proof.Laws

open Sys2Proof.Machine Sys2Proof.Claims

theorem good_iff (s : State) : s.good = true ↔ Memory.wf s.mem = true ∧ (s.run = .running → s.armed = true) ∧
    ∀ cause, s.run = .faulted cause → cause.reachable = true := by
  cases h : s.run <;> simp [State.good, h]

/-- A state with the run state and `armed` of a good state is good once its memory is in its canonical form. -/
theorem good_of_same_run {s t : State} (hs : s.good = true) (hwf : Memory.wf t.mem = true) (hrun : t.run = s.run)
    (harmed : t.armed = s.armed) : t.good = true := by
  obtain ⟨-, hr, hf⟩ := (good_iff s).mp hs
  exact (good_iff t).mpr ⟨hwf, by rwa [hrun, harmed], by rwa [hrun]⟩

/-- In IDLE and HALTED canonical memory is all a good state asks. -/
theorem good_of_stopped {t : State} (hwf : Memory.wf t.mem = true) (h : t.run = .idle ∨ t.run = .halted) :
    t.good = true := by
  rcases h with h | h <;> exact (good_iff t).mpr ⟨hwf, by simp [h], by simp [h]⟩

theorem good_formOf_run (i : Instr) (s : State) (h : s.good = true) : ((formOf i).run s).good = true := by
  have hwf := wf_run (formOf i) s (operand_ne_noneAddressing i) ((good_iff s).mp h).1
  obtain ⟨hrun, harmed, -⟩ := formOf_run_keeps i s
  by_cases hi : i = .brk
  · exact good_of_stopped hwf (.inr (by rw [hrun, if_pos hi]))
  · exact good_of_same_run h hwf (by rw [hrun, if_neg hi]) harmed

theorem good_resetEvent (s : State) (h : s.good = true) : s.resetEvent.good = true :=
  good_of_stopped (t := s.resetEvent) ((good_iff s).mp h).1 (.inl rfl)

theorem good_powerOnEvent (s : State) : s.powerOnEvent.good = true :=
  good_of_stopped (t := s.powerOnEvent) rfl (.inl rfl)

theorem good_hostAccesses (whats : List HostAccess) (s : State) (h : s.good = true) :
    (s.hostAccesses whats).good = true := by
  obtain ⟨hrun, harmed, -⟩ := hostAccesses_keep whats s
  exact good_of_same_run h (wf_hostAccesses whats s ((good_iff s).mp h).1) hrun harmed

theorem good_hookAnswer (s : State) (answer : HookAnswer) (h : s.good = true) : (s.hookAnswer answer).good = true := by
  cases answer with
  | resume => exact h
  | stop => exact good_of_stopped (t := s.setRun .idle) ((good_iff s).mp h).1 (.inl rfl)
  | stopAndReset => exact good_resetEvent s h
  | powerOn => exact good_powerOnEvent s

theorem good_afterInstruction (s : State) (h : s.good = true) : s.afterInstruction.good = true := by
  unfold State.afterInstruction State.callHook
  split
  · split
    · exact h
    · exact good_hookAnswer _ _ (good_hostAccesses _ _ h)
  · exact h

theorem wf_write16 (s : State) (addr w : Word) (h : Memory.wf s.mem = true) : Memory.wf (s.write16 addr w).mem = true :=
  wf_write _ _ _ (addr + 1).isLt (wf_write _ _ _ addr.isLt h)

/-- LOAD changes memory and `armed`, and it comes outside RUNNING only, so the unarmed machine is still good. -/
theorem good_loadEvent (s : State) (image : List Byte) (hrun : s.run ≠ .running) (h : s.good = true) :
    (s.loadEvent image).good = true := by
  obtain ⟨hwf, -, hf⟩ := (good_iff s).mp h
  unfold State.loadEvent
  split
  · exact h
  · have hkept : (s.writeBytes Config.loadBase image).run = s.run := by
      rw [writeBytes_eq]
    have hcopied := wf_writeBytes image s Config.loadBase hwf
    exact (good_iff _).mpr ⟨wf_write16 (s.writeBytes Config.loadBase image) Config.resetVector Config.loadBase hcopied,
      fun h => absurd (hkept.symm.trans h) hrun, fun cause h => hf cause (hkept.symm.trans h)⟩

/-- RUN starts an armed machine (R264). -/
theorem runEvent_of_armed (s : State) (hook : List HookReply) (hrun : s.run = .idle ∨ s.run = .halted)
    (harmed : s.armed = true) :
    s.runEvent hook = ((s.setRun .running).setHook hook).setReport .accepted := by
  rcases hrun with h | h <;> simp [State.runEvent, h, harmed]

/-- An unarmed machine refuses RUN, in any run state (R249). -/
theorem runEvent_of_unarmed (s : State) (hook : List HookReply) (harmed : s.armed = false) :
    s.runEvent hook = s.setReport .runRefused := by
  cases h : s.run <;> simp [State.runEvent, h, harmed]

/-- FAULT refuses RUN (R27). -/
theorem runEvent_of_faulted (s : State) (hook : List HookReply) (cause : Fault) (hrun : s.run = .faulted cause) :
    s.runEvent hook = s.setReport .runRefused := by
  simp [State.runEvent, hrun]

theorem good_runEvent (s : State) (hook : List HookReply) (hrun : s.run ≠ .running) (h : s.good = true) :
    (s.runEvent hook).good = true := by
  obtain ⟨hwf, -⟩ := (good_iff s).mp h
  cases harmed : s.armed with
  | false =>
    rw [runEvent_of_unarmed s hook harmed]
    exact h
  | true =>
    have started (hstopped : s.run = .idle ∨ s.run = .halted) : (s.runEvent hook).good = true := by
      rw [runEvent_of_armed s hook hstopped harmed]
      exact (good_iff _).mpr ⟨hwf, fun _ => harmed, by simp⟩
    cases hr : s.run with
    | running => exact absurd hr hrun
    | idle => exact started (.inl hr)
    | halted => exact started (.inr hr)
    | faulted cause =>
      rw [runEvent_of_faulted s hook cause hr]
      exact h

theorem good_hostEvent (s : State) (e : HostEvent) (hrun : s.run ≠ .running) (h : s.good = true) :
    (s.hostEvent e).good = true := by
  cases e with
  | powerOn => exact good_powerOnEvent s
  | load image => exact good_loadEvent s image hrun h
  | reset => exact good_resetEvent s h
  | run hook => exact good_runEvent s hook hrun h
  | access what => exact good_hostAccesses [what] s h

end Sys2Proof.Laws
end

section
/-! What the flag computations and the forms make of the bits of P: the bits they keep (10_state.md R17 to R24), and
that no instruction other than PHP looks at the bits I, D, B and U (10_state.md R19 to R22, R25). -/

namespace Sys2Proof.Laws

open Sys2Proof.Machine Sys2Proof.Claims

/-! ### Bits kept -/

/-- A computation of a byte and a new P leaves bit `k` of P. -/
def KeepsBit (k : Nat) (g : Byte → Byte × Byte) : Prop := ∀ p, (g p).2.getLsbD k = p.getLsbD k

section

variable (k : Nat) (a m v : Byte)

theorem addWithCarry_keepsBit (hk : k ∉ [0, 1, 6, 7]) : KeepsBit k (addWithCarry a m) := by
  intro p
  simp_all [addWithCarry, Flag.bit]

theorem subWithCarry_keepsBit (hk : k ∉ [0, 1, 6, 7]) : KeepsBit k (subWithCarry a m) :=
  addWithCarry_keepsBit k a _ hk

theorem bitAnd_keepsBit (hk : k ∉ [1, 7]) : KeepsBit k (bitAnd a m) := by
  intro p
  simp_all [bitAnd]

theorem bitEor_keepsBit (hk : k ∉ [1, 7]) : KeepsBit k (bitEor a m) := by
  intro p
  simp_all [bitEor]

theorem bitOra_keepsBit (hk : k ∉ [1, 7]) : KeepsBit k (bitOra a m) := by
  intro p
  simp_all [bitOra]

theorem shiftLeft_keepsBit (hk : k ∉ [0, 1, 7]) : KeepsBit k (shiftLeft v) := by
  intro p
  simp_all [shiftLeft, Flag.bit]

theorem shiftRight_keepsBit (hk : k ∉ [0, 1, 7]) : KeepsBit k (shiftRight v) := by
  intro p
  simp_all [shiftRight, Flag.bit]

theorem rotateLeft_keepsBit (hk : k ∉ [0, 1, 7]) : KeepsBit k (rotateLeft v) := by
  intro p
  simp_all [rotateLeft, Flag.bit]

theorem rotateRight_keepsBit (hk : k ∉ [0, 1, 7]) : KeepsBit k (rotateRight v) := by
  intro p
  simp_all [rotateRight, Flag.bit]

theorem increment_keepsBit (hk : k ∉ [1, 7]) : KeepsBit k (increment v) := by
  intro p
  simp_all [increment]

theorem decrement_keepsBit (hk : k ∉ [1, 7]) : KeepsBit k (decrement v) := by
  intro p
  simp_all [decrement]

end

theorem compareFlags_keepsBit (k : Nat) (r m p : Byte) (hk : k ∉ [0, 1, 7]) :
    (compareFlags r m p).getLsbD k = p.getLsbD k := by
  simp_all [compareFlags, Flag.bit]

theorem bitTestFlags_keepsBit (k : Nat) (a m p : Byte) (hk : k ∉ [1, 6, 7]) :
    (bitTestFlags a m p).getLsbD k = p.getLsbD k := by
  simp_all [bitTestFlags, Flag.bit]

theorem setZN_keepsBit (k : Nat) (v p : Byte) (hk : k ∉ [1, 7]) : (setZN v p).getLsbD k = p.getLsbD k := by
  simp_all

/-- What makes a form leave bit `k` of P. -/
def Form.KeepsFlag (k : Nat) : Form → Prop
  | .load _ _ | .transfer _ _ | .pullA => k ∉ [1, 7]
  | .accumulator g _ => ∀ a m, KeepsBit k (g a m)
  | .modify g _ | .shiftA g | .index g _ => ∀ v, KeepsBit k (g v)
  | .compare _ _ => k ∉ [0, 1, 7]
  | .bitTest _ => k ∉ [1, 6, 7]
  | .flag f _ => k ≠ f.bit
  | .retInt | .pullP => False
  | _ => True

theorem p_run_of_keepsFlag (f : Form) (s : State) (k : Nat) (hop : f.operand? ≠ some .noneAddressing)
    (hk : f.KeepsFlag k) : (f.run s).p.getLsbD k = s.p.getLsbD k := by
  obtain ⟨ea, hea⟩ := exists_effective_address f s hop
  cases f with
  | load r m =>
    rw [Form.run, loadForm_eq s m ea (hea m rfl)]
    exact setZN_keepsBit k _ _ hk
  | transfer source r =>
    rw [Form.run, transferForm_eq]
    exact setZN_keepsBit k _ _ hk
  | pullA => exact setZN_keepsBit k _ _ hk
  | accumulator g m =>
    rw [Form.run, accumulatorForm_eq s m ea (hea m rfl)]
    exact hk s.a (m.fetch ea s) s.p
  | modify g m =>
    rw [Form.run, readModifyWrite_eq s m ea (hea m rfl)]
    exact hk (m.fetch ea s) s.p
  | shiftA g => exact hk s.a s.p
  | index g r => exact hk (s.reg r) s.p
  | compare r m =>
    rw [Form.run, compareForm_eq s m ea (hea m rfl)]
    exact compareFlags_keepsBit k _ _ _ hk
  | bitTest m =>
    rw [Form.run, bitTestForm_eq s m ea (hea m rfl)]
    exact bitTestFlags_keepsBit k _ _ _ hk
  | flag g b => exact (getLsbD_putFlag g b s.p k).trans (if_neg hk)
  | retInt | pullP => exact hk.elim
  | store r m => rw [Form.run, storeForm_eq s m ea (hea m rfl)]
  | branch g want off => rw [Form.run, branchForm_eq]
  | call target => rw [Form.run, callSubroutine_eq, push16_eq]
  | moveToSp | jump target | jumpIndirect ptr | ret | push value | halt | nop => rfl

/-- The bits of P that an instruction of a mnemonic writes: the lists of R17 to R24, read by mnemonic. -/
def writtenBits : Mnemonic → List Nat
  | .adcM | .sbcM => [0, 1, 6, 7]
  | .cmpM | .cpxM | .cpyM | .aslM | .lsrM | .rolM | .rorM => [0, 1, 7]
  | .bitM => [1, 6, 7]
  | .ldaM | .ldxM | .ldyM | .taxM | .tayM | .txaM | .tyaM | .tsxM | .andM | .eorM | .oraM | .incM | .decM | .inxM
  | .inyM | .dexM | .deyM | .plaM => [1, 7]
  | .clcM | .secM => [0]
  | .cliM | .seiM => [2]
  | .cldM | .sedM => [3]
  | .clvM => [6]
  | .plpM | .rtiM => [0, 1, 2, 3, 4, 5, 6, 7]
  | _ => []

theorem mem_flagWriters_of_written (m : Mnemonic) : ∀ k ∈ writtenBits m, m ∈ flagWriters k := by
  cases m <;> decide

/-- Row by row; PLP and RTI write every bit below 8, which is left to `omega`. -/
theorem keepsFlag_of_not_written (i : Instr) (k : Nat) (hk : k < 8) (hw : k ∉ writtenBits i.mnemonic) :
    (formOf i).KeepsFlag k := by
  cases i <;> simp_all [formOf, Form.KeepsFlag, writtenBits, Instr.mnemonic, Flag.bit, addWithCarry_keepsBit,
    subWithCarry_keepsBit, bitAnd_keepsBit, bitEor_keepsBit, bitOra_keepsBit, shiftLeft_keepsBit,
    shiftRight_keepsBit, rotateLeft_keepsBit, rotateRight_keepsBit, increment_keepsBit, decrement_keepsBit] <;> omega

end Sys2Proof.Laws
end

section
/-! Bits of P that no computation looks at: a run from two states that differ in such bits only differs in them only
(10_state.md R19 to R22, R25). -/

namespace Sys2Proof.Laws

open Sys2Proof.Machine Sys2Proof.Claims

/-- Two bytes agree in every bit but the listed ones. -/
def AgreeOff (bits : List Nat) (p q : Byte) : Prop := ∀ k, k < 8 → k ∉ bits → p.getLsbD k = q.getLsbD k

/-- A computation of a byte and a new P does not look at the listed bits of P, and hands on no difference in them to
another bit. -/
def BlindTo (bits : List Nat) (g : Byte → Byte × Byte) : Prop :=
  ∀ p q, AgreeOff bits p q → (g p).1 = (g q).1 ∧ AgreeOff bits (g p).2 (g q).2

section

variable {bits : List Nat} {p q : Byte} (h : AgreeOff bits p q)

include h

theorem AgreeOff.putFlag (f : Flag) (b : Bool) : AgreeOff bits (putFlag f b p) (putFlag f b q) := by
  intro k hk hoff
  simp only [getLsbD_putFlag, h k hk hoff]

theorem AgreeOff.setZN (v : Byte) : AgreeOff bits (setZN v p) (setZN v q) :=
  (h.putFlag _ _).putFlag _ _

theorem AgreeOff.getFlag_eq (f : Flag) (hf : f.bit ∉ bits) : getFlag f p = getFlag f q :=
  h f.bit (by cases f <;> decide) hf

theorem AgreeOff.pushedStatus_eq (hb : ∀ k ∈ bits, k ∈ [4, 5]) : pushedStatus p = pushedStatus q := by
  apply byte_eq_of_bits
  intro k hk
  by_cases hoff : k ∈ bits
  · have hset := hb k hoff
    simp only [List.mem_cons, List.not_mem_nil, or_false] at hset
    rcases hset with rfl | rfl <;> simp [pushedStatus]
  · simp only [pushedStatus, BitVec.getLsbD_or, h k hk hoff]

end

section

variable {bits : List Nat} (hcarry : 0 ∉ bits) (a m v : Byte)

theorem bitAnd_blindTo : BlindTo bits (bitAnd a m) := fun _ _ h => ⟨rfl, h.setZN _⟩

theorem bitEor_blindTo : BlindTo bits (bitEor a m) := fun _ _ h => ⟨rfl, h.setZN _⟩

theorem bitOra_blindTo : BlindTo bits (bitOra a m) := fun _ _ h => ⟨rfl, h.setZN _⟩

theorem shiftLeft_blindTo : BlindTo bits (shiftLeft v) := fun _ _ h => ⟨rfl, (h.putFlag _ _).setZN _⟩

theorem shiftRight_blindTo : BlindTo bits (shiftRight v) := fun _ _ h => ⟨rfl, (h.putFlag _ _).setZN _⟩

theorem increment_blindTo : BlindTo bits (increment v) := fun _ _ h => ⟨rfl, h.setZN _⟩

theorem decrement_blindTo : BlindTo bits (decrement v) := fun _ _ h => ⟨rfl, h.setZN _⟩

include hcarry

/-- Addition reads Carry and no other flag: it is binary whatever D holds (R150, R159). -/
theorem addWithCarry_blindTo : BlindTo bits (addWithCarry a m) := by
  intro p q h
  simp only [addWithCarry, h.getFlag_eq .c hcarry]
  exact ⟨trivial, ((h.putFlag _ _).putFlag _ _).setZN _⟩

theorem subWithCarry_blindTo : BlindTo bits (subWithCarry a m) := addWithCarry_blindTo hcarry a _

theorem rotateLeft_blindTo : BlindTo bits (rotateLeft v) := by
  intro p q h
  simp only [rotateLeft, h.getFlag_eq .c hcarry]
  exact ⟨trivial, (h.putFlag _ _).setZN _⟩

theorem rotateRight_blindTo : BlindTo bits (rotateRight v) := by
  intro p q h
  simp only [rotateRight, h.getFlag_eq .c hcarry]
  exact ⟨trivial, (h.putFlag _ _).setZN _⟩

end

/-- What makes a form blind to the listed bits of P. -/
def Form.BlindToBits (bits : List Nat) : Form → Prop
  | .accumulator g _ => ∀ a m, BlindTo bits (g a m)
  | .modify g _ | .shiftA g | .index g _ => ∀ v, BlindTo bits (g v)
  | .transfer source _ => ∀ (s : State) (q : Byte), source { s with p := q } = source s
  | .push value => ∀ (s : State) (q : Byte), AgreeOff bits s.p q → value { s with p := q } = value s
  | .branch f _ _ => f.bit ∉ bits
  | _ => True

theorem resolve_with_p (m : Operand) (s : State) (q : Byte) :
    m.resolve ({ s with p := q } : State).pastOpcode = m.resolve s.pastOpcode := by
  cases m <;> rfl

theorem fetch_with_p (m : Operand) (ea : Word) (s : State) (q : Byte) :
    m.fetch ea { s with p := q } = m.fetch ea s := by
  cases m <;> rfl

theorem reg_with_p (s : State) (r : Reg) (q : Byte) : ({ s with p := q } : State).reg r = s.reg r := by
  cases r <;> rfl

/-- A blind form, run from the same state with another P, ends in the same state but for bits of P it is blind to. -/
theorem run_with_p (f : Form) (bits : List Nat) (s : State) (q : Byte) (hop : f.operand? ≠ some .noneAddressing)
    (hf : f.BlindToBits bits) (h : AgreeOff bits s.p q) :
    ∃ q', f.run { s with p := q } = { f.run s with p := q' } ∧ AgreeOff bits (f.run s).p q' := by
  obtain ⟨ea, hea⟩ := exists_effective_address f s hop
  have hea' : ∀ m, f.operand? = some m → m.resolve ({ s with p := q } : State).pastOpcode = .ok ea :=
    fun m hm => (resolve_with_p m s q).trans (hea m hm)
  cases f with
  | load r m =>
    simp only [Form.run, loadForm_eq _ m ea (hea m rfl), loadForm_eq _ m ea (hea' m rfl), fetch_with_p]
    exact ⟨_, by cases r <;> rfl, h.setZN _⟩
  | store r m =>
    simp only [Form.run, storeForm_eq _ m ea (hea m rfl), storeForm_eq _ m ea (hea' m rfl), reg_with_p]
    exact ⟨q, rfl, h⟩
  | accumulator g m =>
    simp only [Form.run, accumulatorForm_eq _ m ea (hea m rfl), accumulatorForm_eq _ m ea (hea' m rfl), fetch_with_p]
    obtain ⟨hbyte, hp⟩ := hf s.a (m.fetch ea s) s.p q h
    exact ⟨_, by rw [hbyte], hp⟩
  | compare r m =>
    simp only [Form.run, compareForm_eq _ m ea (hea m rfl), compareForm_eq _ m ea (hea' m rfl), fetch_with_p,
      reg_with_p]
    exact ⟨_, rfl, (h.putFlag _ _).setZN _⟩
  | bitTest m =>
    simp only [Form.run, bitTestForm_eq _ m ea (hea m rfl), bitTestForm_eq _ m ea (hea' m rfl), fetch_with_p]
    exact ⟨_, rfl, ((h.putFlag _ _).putFlag _ _).putFlag _ _⟩
  | modify g m =>
    simp only [Form.run, readModifyWrite_eq _ m ea (hea m rfl), readModifyWrite_eq _ m ea (hea' m rfl), fetch_with_p]
    obtain ⟨hbyte, hp⟩ := hf (m.fetch ea s) s.p q h
    exact ⟨_, by rw [hbyte], hp⟩
  | transfer source r =>
    simp only [Form.run, transferForm_eq, hf s q]
    exact ⟨_, by cases r <;> rfl, h.setZN _⟩
  | shiftA g =>
    simp only [Form.run, onAccumulator_eq]
    obtain ⟨hbyte, hp⟩ := hf s.a s.p q h
    exact ⟨_, by rw [hbyte], hp⟩
  | index g r =>
    simp only [Form.run, onIndex_eq, reg_with_p]
    obtain ⟨hbyte, hp⟩ := hf (s.reg r) s.p q h
    exact ⟨_, by rw [hbyte]; cases r <;> rfl, hp⟩
  | branch g want off =>
    simp only [Form.run, branchForm_eq, h.getFlag_eq g hf]
    exact ⟨q, rfl, h⟩
  | push value =>
    simp only [Form.run, push8_eq, hf s q h]
    exact ⟨q, rfl, h⟩
  | flag g b => exact ⟨_, rfl, h.putFlag g b⟩
  | pullA => exact ⟨_, rfl, h.setZN _⟩
  | retInt =>
    simp only [Form.run, returnFromInterrupt_eq]
    exact ⟨_, rfl, fun _ _ _ => rfl⟩
  | pullP =>
    simp only [Form.run, pullStatus_eq]
    exact ⟨_, rfl, fun _ _ _ => rfl⟩
  | call target =>
    simp only [Form.run, callSubroutine_eq, push16_eq]
    exact ⟨q, rfl, h⟩
  | moveToSp | jump target | jumpIndirect ptr | ret | halt | nop => exact ⟨q, rfl, h⟩

/-- `SameBut` says that the second state is the first with another P. -/
theorem sameBut_iff (bits : List Nat) (s s' : State) :
    SameBut bits s s' ↔ ∃ q, s' = { s with p := q } ∧ AgreeOff bits s.p q := by
  constructor
  · rintro ⟨hrest, hp⟩
    refine ⟨s'.p, ?_, hp⟩
    cases s
    cases s'
    simp_all
  · rintro ⟨q, rfl, hp⟩
    exact ⟨rfl, hp⟩

/-- No instruction looks at I, D, B or U, except that PHP pushes I and D (R19 to R22). -/
theorem formOf_blindToBits (bits : List Nat) (hb : ∀ k ∈ bits, k ∈ [2, 3, 4, 5]) (i : Instr)
    (hphp : i = .php → ∀ k ∈ bits, k ∈ [4, 5]) : (formOf i).BlindToBits bits := by
  have hc : 0 ∉ bits := fun h => absurd (hb 0 h) (by decide)
  have hz : 1 ∉ bits := fun h => absurd (hb 1 h) (by decide)
  have hv : 6 ∉ bits := fun h => absurd (hb 6 h) (by decide)
  have hn : 7 ∉ bits := fun h => absurd (hb 7 h) (by decide)
  by_cases hi : i = .php
  · subst hi
    exact fun s q h => (h.pushedStatus_eq (hphp rfl)).symm
  · cases i <;> simp_all [formOf, Form.BlindToBits, Flag.bit, addWithCarry_blindTo, subWithCarry_blindTo,
      bitAnd_blindTo, bitEor_blindTo, bitOra_blindTo, shiftLeft_blindTo, shiftRight_blindTo, rotateLeft_blindTo,
      rotateRight_blindTo, increment_blindTo, decrement_blindTo]

/-- An instruction keeps two states the same but for bits it is blind to. -/
theorem sameBut_formOf_run (bits : List Nat) (i : Instr) (s s' : State) (hf : (formOf i).BlindToBits bits)
    (h : SameBut bits s s') : SameBut bits ((formOf i).run s) ((formOf i).run s') := by
  obtain ⟨q, rfl, hp⟩ := (sameBut_iff bits s s').mp h
  exact (sameBut_iff bits _ _).mpr (run_with_p (formOf i) bits s q (operand_ne_noneAddressing i) hf hp)

end Sys2Proof.Laws
end

section
/-! The statements about the state (10_state.md): each is settled by the lemmas above. -/

namespace Sys2Proof.Proofs

open Sys2Proof.Machine Sys2Proof.Claims Sys2Proof.Laws

/-- Settles O45, by what a step can do: an instruction and the hook, an illegal opcode byte, a host event. -/
theorem everyStepKeepsAGoodState : Obligations.EveryStepKeepsAGoodState := by
  intro s t hs hstep
  by_cases hrun : s.run = .running
  · rw [step_running s hrun] at hstep
    obtain ⟨i, -, -, h⟩ | ⟨hillegal, h⟩ := engineStep_cases s <;> cases h.symm.trans hstep
    · exact good_afterInstruction _ (good_formOf_run i s hs)
    · refine (good_iff _).mpr ⟨((good_iff s).mp hs).1, nofun, ?_⟩
      rintro _ ⟨⟩
      exact List.contains_iff_mem.mpr hillegal
  · cases hp : s.pending with
    | nil => exact absurd hstep (step_ne_next_of_no_pending s t hrun hp)
    | cons e rest =>
      cases (step_of_pending s e rest hrun hp).symm.trans hstep
      exact good_hostEvent (s.setPending rest) e hrun hs

/-- Settles O7: the fetched bytes are the instruction's encoding and then the rest. -/
theorem fetchedInstructionIsTheBytesAtPc : Obligations.FetchedInstructionIsTheBytesAtPc := by
  intro s i rest h k hk
  have hbytes : s.fetchBytes = encode i ++ rest := encode_of_decode _ i rest h
  have hlen : k < (encode i).length := (encode_length i).symm ▸ hk
  have hthree : (encode i).length ≤ s.fetchBytes.length := by simp [hbytes]
  rw [← fetchBytes_getElem? s k (Nat.lt_of_lt_of_le hlen hthree), hbytes, List.getElem?_append_left hlen]

/-- Settles O39: a register changes only where it is the target of the instruction's form. -/
theorem registersHaveOnlyTheirListedWriters : Obligations.RegistersHaveOnlyTheirListedWriters := by
  intro i s t h
  cases (exec_eq_form i s).symm.trans h
  obtain ⟨ha, hx, hy, hsp⟩ := writes_of_target i
  have kept (r : Reg) (ht : (formOf i).target? ≠ some r) : ((formOf i).run s).reg r = s.reg r :=
    reg_run_of_ne_target (formOf i) s r (operand_ne_noneAddressing i) ht
  refine ⟨fun hw => kept .a fun e => ?_, fun hw => kept .x fun e => ?_, fun hw => kept .y fun e => ?_, fun hw =>
    sp_run_of_not_movesSp (formOf i) s (operand_ne_noneAddressing i) (Bool.eq_false_iff.mpr fun e => ?_)⟩
  · exact Bool.false_ne_true (hw.symm.trans (ha e))
  · exact Bool.false_ne_true (hw.symm.trans (hx e))
  · exact Bool.false_ne_true (hw.symm.trans (hy e))
  · exact Bool.false_ne_true (hw.symm.trans (hsp e))

/-- Settles O40: a bit the instruction's mnemonic does not write is one its form keeps. -/
theorem flagsHaveOnlyTheirListedWriters : Obligations.FlagsHaveOnlyTheirListedWriters := by
  intro i s t k h hk hw
  cases (exec_eq_form i s).symm.trans h
  exact p_run_of_keepsFlag (formOf i) s k (operand_ne_noneAddressing i)
    (keepsFlag_of_not_written i k hk fun hmem => hw (mem_flagWriters_of_written i.mnemonic k hmem))

/-- Settles O42: `exec` answers a next state on every form, and a form keeps the run state and the host's fields. -/
theorem noInstructionFaults : Obligations.NoInstructionFaults := by
  intro i s
  obtain ⟨hrun, hrest⟩ := formOf_run_keeps i s
  exact ⟨_, exec_eq_form i s, fun hi => by rw [hrun, if_neg hi], fun hi => by rw [hrun, if_pos hi], hrest⟩

/-- Settles O43: the two states fetch the same bytes, and no instruction looks at B or U. -/
theorem breakBitsAreUnobservable : Obligations.BreakBitsAreUnobservable := by
  intro s s' hrun hhook h
  obtain ⟨q, rfl, hp⟩ := (sameBut_iff [4, 5] s s').mp h
  rw [step_running s hrun, step_running { s with p := q } hrun]
  cases hd : decode s.fetchBytes with
  | ok decoded =>
    obtain ⟨i, rest⟩ := decoded
    exact ⟨_, _, engineStep_of_identity_hook s i rest hhook hd, engineStep_of_identity_hook _ i rest hhook hd,
      sameBut_formOf_run [4, 5] i _ _ (formOf_blindToBits [4, 5] (by decide) i fun _ _ hk => hk) h⟩
  | error e =>
    exact ⟨_, _, engineStep_of_decode_error s e hd, engineStep_of_decode_error _ e hd,
      (sameBut_iff _ _ _).mpr ⟨q, rfl, hp⟩⟩

/-- Settles O44: no instruction but PHP looks at I or D. -/
theorem interruptAndDecimalBitsHaveNoFunction : Obligations.InterruptAndDecimalBitsHaveNoFunction := by
  intro i s s' hi h
  have hblind := formOf_blindToBits [2, 3] (by decide) i fun e => absurd e hi
  exact ⟨_, _, exec_eq_form i s, exec_eq_form i s', sameBut_formOf_run [2, 3] i s s' hblind h⟩

/-- Settles O9: with no event to take, `step` names the run state. -/
theorem noStepOutsideRunning : Obligations.NoStepOutsideRunning := by
  intro s hp
  refine ⟨fun h => ?_, fun h => ?_, fun cause h => ?_⟩ <;> simp [step, hostStep, hp, h]

/-- Settles O46. -/
theorem resetStateIsGood : Obligations.ResetStateIsGood :=
  good_of_stopped wf_reset (.inl rfl)

/-- Settles O48: the zeroed memory of POWER_ON gives RESET the vector 0x0000. -/
theorem resetStateIsPowerOnThenReset : Obligations.ResetStateIsPowerOnThenReset := by
  intro s
  have hvector : s.powerOnEvent.read16 Config.resetVector = 0x0000 := by
    change joinBytes unlistedByte unlistedByte = 0x0000
    decide
  rw [State.resetEvent, hvector]
  rfl

/-- Settles O49: the two free values of the configuration each choose one of two candidates. -/
theorem powerOnCreatesTheState : Obligations.PowerOnCreatesTheState := by
  intro s rest hrun hp
  have hsp : Config.powerOnSp = 0x00 ∨ Config.powerOnSp = 0xFD := by
    unfold Config.powerOnSp
    split <;> simp
  have hstatus : Config.powerOnP = 0x00 ∨ Config.powerOnP = 0x24 := by
    unfold Config.powerOnP
    split <;> simp
  exact ⟨_, step_of_pending s _ rest hrun hp, rfl, rfl, rfl, rfl, rfl, rfl, hsp, hstatus, fun _ => rfl, rfl⟩

/-- Settles O51: outside RUNNING the pending RUN is taken, and its effect follows the run state and `armed`. -/
theorem runNeedsAnArmedMachine : Obligations.RunNeedsAnArmedMachine := by
  intro s replies rest hp
  refine ⟨fun hrun harmed => ?_, fun hrun harmed => ?_, fun cause hrun => ?_⟩
  · rw [step_of_pending s _ rest (by rcases hrun with h | h <;> simp [h]) hp]
    exact congrArg Host.Outcome.next (runEvent_of_armed (s.setPending rest) replies hrun harmed)
  · rw [step_of_pending s _ rest (by rcases hrun with h | h <;> simp [h]) hp]
    exact congrArg Host.Outcome.next (runEvent_of_unarmed (s.setPending rest) replies harmed)
  · rw [step_of_pending s _ rest (by simp [hrun]) hp]
    exact congrArg Host.Outcome.next (runEvent_of_faulted (s.setPending rest) replies cause hrun)

end Sys2Proof.Proofs
end

section
/-! Memory after a write, and what the forms of Laws/Forms.lean leave of it (20_memory.md R40 to R43, R46). -/

namespace Sys2Proof.Laws

open Sys2Proof.Machine Sys2Proof.Claims

/-- A byte after a write, by its address (R40, R41). -/
theorem byteAt_write (s : State) (addr : Word) (v : Byte) (n : Nat) :
    byteAt (s.write addr v) n = if n = addr.toNat then v else byteAt s n :=
  read_write s.mem addr.toNat v n

/-- A byte after a word write: the low byte at the address, the high byte at the next one modulo 65536 (R43). -/
theorem byteAt_write16 (s : State) (addr w : Word) (n : Nat) :
    byteAt (s.write16 addr w) n =
      if n = addr.toNat then lowByte w else if n = (addr.toNat + 1) % 65536 then highByte w else byteAt s n := by
  have hnext : (addr + 1).toNat = (addr.toNat + 1) % 65536 := by simp
  have hne : addr.toNat ≠ (addr.toNat + 1) % 65536 := by omega
  rw [State.write16, byteAt_write, byteAt_write, hnext]
  by_cases hn : n = addr.toNat
  · simp [hn, hne]
  · simp [hn]

/-- The addresses a form stores to. -/
def Form.storedAddresses : Form → State → List Word
  | .store _ m, s | .modify _ m, s =>
    match m.resolve s.pastOpcode with
    | .ok ea => [ea]
    | .error _ => []
  | .push _, s => [stackAddr s.sp]
  | .call _, s => [stackAddr s.sp, stackAddr (s.sp - 1)]
  | _, _ => []

/-- What the mnemonic says of the stored addresses is what the form says: row by row. -/
theorem storedAddresses_eq_form (i : Instr) (s : State) : storedAddresses i s = (formOf i).storedAddresses s := by
  cases i <;> rfl

/-- A form that stores to no address leaves memory as it is. -/
theorem mem_run_of_no_stored (f : Form) (s : State) (hop : f.operand? ≠ some .noneAddressing)
    (h : f.storedAddresses s = []) : (f.run s).mem = s.mem := by
  obtain ⟨ea, hea⟩ := exists_effective_address f s hop
  cases f with
  | store r m | modify g m => simp [Form.storedAddresses, hea m rfl] at h
  | push value | call target => cases h
  | load r m =>
    rw [Form.run, loadForm_eq s m ea (hea m rfl)]
    cases r <;> rfl
  | accumulator g m => rw [Form.run, accumulatorForm_eq s m ea (hea m rfl)]
  | compare r m => rw [Form.run, compareForm_eq s m ea (hea m rfl)]
  | bitTest m => rw [Form.run, bitTestForm_eq s m ea (hea m rfl)]
  | transfer source r | index g r => cases r <;> rfl
  | branch g want off => rw [Form.run, branchForm_eq]
  | retInt => rw [Form.run, returnFromInterrupt_eq]
  | moveToSp | shiftA g | jump target | jumpIndirect ptr | ret | pullA | pullP | flag g b | halt | nop => rfl

/-- A form leaves every byte outside the addresses it stores to. -/
theorem byteAt_run_of_not_stored (f : Form) (s : State) (n : Nat) (hop : f.operand? ≠ some .noneAddressing)
    (hn : n ∉ (f.storedAddresses s).map BitVec.toNat) : byteAt (f.run s) n = byteAt s n := by
  obtain ⟨ea, hea⟩ := exists_effective_address f s hop
  cases f with
  | store r m =>
    have hne : n ≠ ea.toNat := by simpa [Form.storedAddresses, hea m rfl] using hn
    rw [Form.run, storeForm_eq s m ea (hea m rfl)]
    exact (byteAt_write s ea _ n).trans (if_neg hne)
  | modify g m =>
    have hne : n ≠ ea.toNat := by simpa [Form.storedAddresses, hea m rfl] using hn
    rw [Form.run, readModifyWrite_eq s m ea (hea m rfl)]
    exact (byteAt_write s ea _ n).trans (if_neg hne)
  | push value =>
    have hne : n ≠ (stackAddr s.sp).toNat := List.ne_of_not_mem_cons hn
    exact (byteAt_write s (stackAddr s.sp) _ n).trans (if_neg hne)
  | call target =>
    obtain ⟨hhigh, hlow⟩ : n ≠ (stackAddr s.sp).toNat ∧ n ≠ (stackAddr (s.sp - 1)).toNat :=
      ⟨List.ne_of_not_mem_cons hn, List.ne_of_not_mem_cons (List.not_mem_of_not_mem_cons hn)⟩
    calc byteAt ((Form.call target).run s) n
        = byteAt (s.write (stackAddr s.sp) (highByte (s.pc + 1 + 1))) n :=
          (byteAt_write _ (stackAddr (s.sp - 1)) _ n).trans (if_neg hlow)
      _ = byteAt s n := (byteAt_write s _ _ n).trans (if_neg hhigh)
  | _ => exact congrArg (Memory.read · n) (mem_run_of_no_stored _ s hop rfl)

end Sys2Proof.Laws
end

section
/-! The statements about memory (20_memory.md): each is settled by the lemmas above. -/

namespace Sys2Proof.Proofs

open Sys2Proof.Machine Sys2Proof.Claims Sys2Proof.Laws

/-- Settles O38: the stored addresses are those of the instruction's form, which leaves every other byte. -/
theorem onlyStoredBytesChange : Obligations.OnlyStoredBytesChange := by
  intro i s t n h hn
  cases (exec_eq_form i s).symm.trans h
  rw [storedAddresses_eq_form] at hn
  exact byteAt_run_of_not_stored (formOf i) s n (operand_ne_noneAddressing i) hn

/-- Settles O12: the fetch reads memory, where the store stands. -/
theorem storesAreSeenByTheNextFetch : Obligations.StoresAreSeenByTheNextFetch := by
  intro s addr v k hk
  rw [fetchBytes_getElem? _ k hk, byteAt_write, show (s.write addr v).pc = s.pc from rfl]

/-- Settles O13: `write` replaces memory only, by one whose bytes `byteAt_write` gives. -/
theorem byteWriteChangesOneByte : Obligations.ByteWriteChangesOneByte := fun s addr v =>
  ⟨⟨_, write_eq s addr v, byteAt_write s addr v⟩, read_eq s addr⟩

/-- Settles O14: the two halves of a word are its quotient and remainder by 256. -/
theorem wordAccessIsLittleEndian : Obligations.WordAccessIsLittleEndian := by
  intro s addr w
  refine ⟨read16_toNat s addr, (s.write16 addr w).mem, rfl, fun n => ?_⟩
  change (byteAt (s.write16 addr w) n).toNat = _
  rw [byteAt_write16, apply_ite BitVec.toNat, apply_ite BitVec.toNat, lowByte_toNat, highByte_toNat]

/-- Settles O54: outside RUNNING the pending access is taken; the register accesses are equations by definition. -/
theorem hostAccessesHaveNoSideEffect : Obligations.HostAccessesHaveNoSideEffect := by
  intro s addr b v
  refine ⟨fun t _ rest hrun hp => step_of_pending t _ rest hrun hp, rfl, ⟨_, rfl, byteAt_write s addr b⟩, ?_⟩
  and_intros <;> rfl

end Sys2Proof.Proofs
end

section
/-! The decoder read forwards: what it answers on the encoding of an instruction, on a listed byte and on any other
byte, and the opcode map as the decoder's table (30_encoding.md R70 to R77). -/

namespace Sys2Proof.Laws

open Sys2Proof.Machine Sys2Proof.Claims

/-! ### One opcode byte -/

theorem decode_cons_of_no_entry (opcode : Byte) (bytes : List Byte) (h : entryOf opcode = none) :
    decode (opcode :: bytes) = .error (.illegalOpcode opcode) := by
  simp [decode, h]

theorem decode_cons_of_entry (opcode : Byte) (e : Entry) (bytes : List Byte) (h : entryOf opcode = some e) :
    decode (opcode :: bytes) = e.take bytes := by
  simp [decode, h]

/-- Two operand bytes are enough for every entry (R70). -/
theorem take_two_bytes (e : Entry) (b1 b2 : Byte) (rest : List Byte) :
    ∃ i left, e.take (b1 :: b2 :: rest) = .ok (i, left) := by
  cases e with
  | plain i => exact ⟨i, _, rfl⟩
  | byte f => exact ⟨f b1, _, rfl⟩
  | word f => exact ⟨f (joinBytes b2 b1), _, rfl⟩

/-- The instruction a byte sequence decodes to has the sequence's first byte as its opcode byte. -/
theorem opcodeOf_of_decode (opcode : Byte) (bytes : List Byte) (i : Instr) (rest : List Byte)
    (h : decode (opcode :: bytes) = .ok (i, rest)) : opcodeOf i = opcode := by
  have hbytes := encode_of_decode _ i rest h
  have hlen : 0 < (encode i).length := (encode_length i).symm ▸ (Encoding.length_bounds i.format).1
  obtain ⟨first, operands, henc⟩ := List.exists_cons_of_length_pos hlen
  obtain ⟨rfl, -⟩ : opcode = first ∧ bytes = operands ++ rest := by simpa [henc] using hbytes
  simp [opcodeOf, henc]

/-! ### From an instruction to its entry -/

/-- The entry gives the instruction for some value of its operand. -/
def EntryGives (i : Instr) : Entry → Prop
  | .plain j => j = i
  | .byte f => ∃ v, f v = i
  | .word f => ∃ w, f w = i

/-- Every instruction stands in the table, at its opcode byte (R75, R76): row by row, with the opcode byte made a
literal before it is looked up. -/
theorem exists_entryOf_opcodeOf (i : Instr) : ∃ e, entryOf (opcodeOf i) = some e ∧ EntryGives i e := by
  cases i <;> simp only [opcodeOf, encode, List.headD_cons] <;> exact ⟨_, rfl, by simp [EntryGives]⟩

/-- An entry takes back the operand bytes that the encoding of its instruction gives. -/
theorem decode_encode_of_entry (opcode : Byte) (e : Entry) (i : Instr) (rest : List Byte)
    (he : entryOf opcode = some e) (hi : EntryGives i e) : decode (encode i ++ rest) = .ok (i, rest) := by
  have henc := entryOf_encodes opcode e he
  cases e with
  | plain j =>
    obtain rfl := hi
    rw [show encode j = [opcode] from henc]
    exact decode_cons_of_entry opcode _ rest he
  | byte f =>
    obtain ⟨v, rfl⟩ := hi
    rw [show encode (f v) = [opcode, v] from henc v]
    exact decode_cons_of_entry opcode _ (v :: rest) he
  | word f =>
    obtain ⟨w, rfl⟩ := hi
    rw [show encode (f w) = opcode :: wordBytes w from henc w]
    calc decode (opcode :: wordBytes w ++ rest)
        = .ok (f (joinBytes (highByte w) (lowByte w)), rest) :=
          decode_cons_of_entry opcode _ (wordBytes w ++ rest) he
      _ = .ok (f w, rest) := by rw [join_high_low]

/-! ### The opcode map -/

theorem inOpcodeMap_of_lookup (i : Instr) (rows : List (Format × Byte))
    (hrows : opcodeMap.lookup i.mnemonic = some rows) (h : rows.contains (i.format, opcodeOf i) = true) :
    InOpcodeMap i := by
  obtain ⟨before, after, hmap, -⟩ := List.lookup_eq_some_iff.mp hrows
  exact ⟨rows, by simp [hmap], List.contains_iff_mem.mp h⟩

/-- The map lists every instruction under its mnemonic: row by row. -/
theorem inOpcodeMap (i : Instr) : InOpcodeMap i := by
  cases i <;> exact inOpcodeMap_of_lookup _ _ rfl rfl

/-- Every opcode byte of the map decodes to an instruction of the row's mnemonic and format: a finite check. -/
theorem decode_of_opcodeMap : ∀ row ∈ opcodeMap, ∀ c ∈ row.2,
    (decode [c.2, 0, 0]).toOption.map (fun d => (d.1.mnemonic, d.1.format)) = some (row.1, c.1) := by
  decide

/-- Every row of the map is an instruction. -/
theorem exists_instr_of_opcodeMap (m : Mnemonic) (rows : List (Format × Byte)) (f : Format) (b : Byte)
    (hm : (m, rows) ∈ opcodeMap) (hf : (f, b) ∈ rows) :
    ∃ i : Instr, i.mnemonic = m ∧ i.format = f ∧ opcodeOf i = b := by
  have hrow := decode_of_opcodeMap (m, rows) hm (f, b) hf
  cases hd : decode [b, 0, 0] with
  | error e =>
    simp only [hd] at hrow
    cases hrow
  | ok decoded =>
    simp only [hd] at hrow
    cases hrow
    exact ⟨decoded.1, rfl, rfl, opcodeOf_of_decode b _ _ decoded.2 hd⟩

end Sys2Proof.Laws
end

section
/-! The statements about the encoding (30_encoding.md): each is settled by the lemmas above. -/

namespace Sys2Proof.Proofs

open Sys2Proof.Machine Sys2Proof.Claims Sys2Proof.Laws

/-- Settles O1: the instruction stands in the table at its opcode byte, and that entry takes its operand back. -/
theorem decodeOfEncodeIsTheInstruction : Obligations.DecodeOfEncodeIsTheInstruction := by
  intro i rest
  obtain ⟨e, he, hi⟩ := exists_entryOf_opcodeOf i
  exact decode_encode_of_entry (opcodeOf i) e i rest he hi

/-- Settles O2: each entry's operand bytes are the ones that the encoding of its instruction writes. -/
theorem encodeOfDecodeIsTheBytes : Obligations.EncodeOfDecodeIsTheBytes :=
  encode_of_decode

/-- Settles O4: each instruction is found in the map, and each opcode byte of the map decodes to its row. -/
theorem instructionsAreTheOpcodeMap : Obligations.InstructionsAreTheOpcodeMap :=
  ⟨inOpcodeMap, exists_instr_of_opcodeMap, by decide, by decide⟩

/-- Settles O5: the listed bytes are those with no entry, and an entry needs two operand bytes at most. -/
theorem exactlyTheListedBytesAreIllegal : Obligations.ExactlyTheListedBytesAreIllegal := by
  refine ⟨by decide, fun b rest => ⟨fun hb => ?_, fun hb b1 b2 => ?_⟩⟩
  · exact decode_cons_of_no_entry b rest ((entryOf_eq_none_iff b).mpr hb)
  · obtain ⟨e, he⟩ := Option.ne_none_iff_exists'.mp (mt (entryOf_eq_none_iff b).mp hb)
    obtain ⟨i, left, htake⟩ := take_two_bytes e b1 b2 rest
    have hdecode : decode (b :: b1 :: b2 :: rest) = .ok (i, left) := (decode_cons_of_entry b e _ he).trans htake
    exact ⟨i, left, hdecode, opcodeOf_of_decode b _ i left hdecode⟩

end Sys2Proof.Proofs
end

section
/-! The resolver, the stack and PC after an instruction: what the statements about addressing and the step need
(40_addressing_and_step.md R90 to R108). -/

namespace Sys2Proof.Laws

open Sys2Proof.Machine Sys2Proof.Claims

/-! ### The resolver -/

/-- A pointer in page 0 is read from page 0 only (R102, R103). -/
theorem readWordInPage_zext16_toNat (s : State) (b : Byte) :
    (s.readWordInPage (zext16 b)).toNat = wordAt s b.toNat ((b.toNat + 1) % 256) := by
  have hpage : b.toNat / 256 * 256 + (b.toNat + 1) % 256 = (b.toNat + 1) % 256 := by
    have := b.isLt
    omega
  rw [readWordInPage_toNat, zext16_toNat, hpage]
  rfl

/-- The resolver's address of a memory tag past the opcode byte, as a number (R95 to R103). -/
theorem resolve_effectiveAddress (m : Operand) (s : State) (hm : m ≠ .noneAddressing) :
    ∃ ea, m.resolve s.pastOpcode = .ok ea ∧ ea.toNat = effectiveAddress s m := by
  cases m with
  | noneAddressing => exact absurd rfl hm
  | imm imm8 => exact ⟨_, rfl, BitVec.toNat_add s.pc 1⟩
  | zp zp8 => exact ⟨_, rfl, zext16_toNat zp8⟩
  | zpx zp8 => exact ⟨_, rfl, (zext16_toNat _).trans (BitVec.toNat_add zp8 s.x)⟩
  | zpy zp8 => exact ⟨_, rfl, (zext16_toNat _).trans (BitVec.toNat_add zp8 s.y)⟩
  | abs abs16 => exact ⟨_, rfl, rfl⟩
  | abx abs16 => exact ⟨_, rfl, by simp [effectiveAddress, State.pastOpcode]⟩
  | aby abs16 => exact ⟨_, rfl, by simp [effectiveAddress, State.pastOpcode]⟩
  | izx zp8 =>
    refine ⟨_, rfl, ?_⟩
    rw [readWordInPage_zext16_toNat, BitVec.toNat_add, Nat.mod_add_mod]
    rfl
  | izy zp8 =>
    refine ⟨_, rfl, ?_⟩
    rw [BitVec.toNat_add, readWordInPage_zext16_toNat, zext16_toNat]
    rfl

/-- The resolver operand that a format makes of the two bytes after the opcode byte (R72, R73). -/
def operandOf (b1 b2 : Byte) : Format → Operand
  | .imm => .imm b1
  | .zp => .zp b1
  | .zpx => .zpx b1
  | .zpy => .zpy b1
  | .izx => .izx b1
  | .izy => .izy b1
  | .abs => .abs (joinBytes b2 b1)
  | .abx => .abx (joinBytes b2 b1)
  | .aby => .aby (joinBytes b2 b1)
  | .imp | .acc | .rel | .ind => .noneAddressing

/-- An instruction's operand is what its format makes of the bytes of its encoding: row by row. -/
theorem operand_eq_operandOf (i : Instr) (b0 b1 b2 : Byte) (rest : List Byte) (h : [b0, b1, b2] = encode i ++ rest) :
    i.operand = operandOf b1 b2 i.format := by
  cases i <;> cases h <;> simp [Instr.operand, Instr.format, operandOf]

/-- The effective address of the operand at PC is what its format makes of memory after the opcode byte. -/
theorem effectiveAddress_operandOf (s : State) (f : Format) :
    effectiveAddress s (operandOf (s.read (s.pc + 1)) (s.read (s.pc + 2)) f) = addressAtPc s f := by
  have hbyte : (s.read (s.pc + 1)).toNat = operandByteAtPc s := by
    simp [operandByteAtPc, byteAt, read_eq]
  have hword : (joinBytes (s.read (s.pc + 2)) (s.read (s.pc + 1))).toNat = operandWordAtPc s := by
    simp [operandWordAtPc, wordAt, byteAt, read_eq]
  cases f <;> simp only [operandOf, effectiveAddress, addressAtPc, hbyte, hword]

/-! ### The fetch and the step -/

theorem fetchBytes_eq (s : State) : s.fetchBytes =
    [byteAt s s.pc.toNat, byteAt s ((s.pc.toNat + 1) % 65536), byteAt s ((s.pc.toNat + 2) % 65536)] := by
  simp [State.fetchBytes, read_eq, byteAt]

/-! ### The stack -/

/-- A byte after a push (R105). -/
theorem byteAt_push8 (s : State) (v : Byte) (n : Nat) :
    byteAt (s.push8 v) n = if n = 0x100 + s.sp.toNat then v else byteAt s n := by
  rw [← stackAddr_toNat]
  exact byteAt_write s (stackAddr s.sp) v n

theorem sub_one_toNat (b : Byte) : (b - 1).toNat = (b.toNat + 255) % 256 := by
  bv_omega

/-- A byte after a word push: the high byte where SP pointed, the low byte below it in page 1 (R107). -/
theorem byteAt_push16 (s : State) (w : Word) (n : Nat) :
    byteAt (s.push16 w) n =
      if n = 0x100 + s.sp.toNat then highByte w
      else if n = 0x100 + (s.sp.toNat + 255) % 256 then lowByte w else byteAt s n := by
  have hbelow : (s.push8 (highByte w)).sp.toNat = (s.sp.toNat + 255) % 256 := sub_one_toNat s.sp
  have hne : 0x100 + s.sp.toNat ≠ 0x100 + (s.sp.toNat + 255) % 256 := by omega
  rw [State.push16, byteAt_push8, byteAt_push8, hbelow]
  by_cases hn : n = 0x100 + s.sp.toNat
  · rw [if_pos hn, if_pos hn, if_neg fun e => hne (hn.symm.trans e)]
  · rw [if_neg hn, if_neg hn]

/-- A pull gives the byte above SP in page 1 and moves SP onto it (R106). -/
theorem pull8_eq_byteAt (s : State) :
    s.pull8 = (byteAt s (0x100 + (s.sp.toNat + 1) % 256), { s with sp := s.sp + 1 }) := by
  have habove : (stackAddr (s.sp + 1)).toNat = 0x100 + (s.sp.toNat + 1) % 256 := by simp
  rw [pull8_eq, habove]
  rfl

/-- A word pull takes the low byte first (R108). -/
theorem pull16_eq_byteAt (s : State) :
    s.pull16 = (joinBytes (byteAt s (0x100 + (s.sp.toNat + 2) % 256)) (byteAt s (0x100 + (s.sp.toNat + 1) % 256)),
      { s with sp := s.sp + 2 }) := by
  have hlow : (stackAddr (s.sp + 1)).toNat = 0x100 + (s.sp.toNat + 1) % 256 := by simp
  have hhigh : (stackAddr (s.sp + 1 + 1)).toNat = 0x100 + (s.sp.toNat + 2) % 256 := by simp
  rw [pull16_eq, hlow, hhigh, BitVec.add_assoc]
  rfl

theorem push16_sp (s : State) (w : Word) : (s.push16 w).sp = s.sp - 2 := by
  rw [push16_eq, BitVec.sub_sub]
  rfl

/-- The word a push left is the one the next pull gives, at every SP (R108). -/
theorem pull16_push16 (s : State) (w : Word) :
    (s.push16 w).pull16 = (w, { s with mem := (s.push16 w).mem }) := by
  have hlow : ((s.sp - 2).toNat + 1) % 256 = (s.sp.toNat + 255) % 256 := by bv_omega
  have hhigh : ((s.sp - 2).toNat + 2) % 256 = s.sp.toNat := by bv_omega
  have hne : 0x100 + (s.sp.toNat + 255) % 256 ≠ 0x100 + s.sp.toNat := by omega
  rw [pull16_eq_byteAt, push16_sp, hlow, hhigh, byteAt_push16, byteAt_push16, if_pos rfl, if_neg hne, if_pos rfl,
    join_high_low, BitVec.sub_add_cancel]
  rfl

/-! ### PC after an instruction -/

/-- The bytes of an instruction of a form. -/
def Form.length (f : Form) : Nat :=
  match f with
  | .load _ m | .store _ m | .accumulator _ m | .compare _ m | .bitTest m | .modify _ m => m.size + 1
  | .branch _ _ _ => 2
  | .jump _ | .jumpIndirect _ | .call _ => 3
  | _ => 1

theorem length_formOf (i : Instr) : (formOf i).length = i.length := by
  cases i <;> rfl

/-- The forms that may write PC: the jumps, the call, the returns and the branches (R92). -/
def Form.writesPc : Form → Bool
  | .branch _ _ _ | .jump _ | .jumpIndirect _ | .call _ | .ret | .retInt => true
  | _ => false

/-- R92 lists exactly the instructions whose form may write PC: row by row. -/
theorem writesPc_eq_form (i : Instr) : writesPc i = (formOf i).writesPc := by
  cases i <;> rfl

/-- A form that writes no PC ends with PC past its bytes. -/
theorem pc_run_of_not_writesPc (f : Form) (s : State) (hop : f.operand? ≠ some .noneAddressing)
    (h : f.writesPc = false) : (f.run s).pc = s.pc + BitVec.ofNat 16 f.length := by
  obtain ⟨ea, hea⟩ := exists_effective_address f s hop
  cases f with
  | load r m =>
    rw [Form.run, loadForm_eq s m ea (hea m rfl)]
    rfl
  | store r m =>
    rw [Form.run, storeForm_eq s m ea (hea m rfl)]
    rfl
  | accumulator g m =>
    rw [Form.run, accumulatorForm_eq s m ea (hea m rfl)]
    rfl
  | compare r m =>
    rw [Form.run, compareForm_eq s m ea (hea m rfl)]
    rfl
  | bitTest m =>
    rw [Form.run, bitTestForm_eq s m ea (hea m rfl)]
    rfl
  | modify g m =>
    rw [Form.run, readModifyWrite_eq s m ea (hea m rfl)]
    rfl
  | branch g want off | jump target | jumpIndirect ptr | call target | ret | retInt => cases h
  | transfer source r | index g r => cases r <;> rfl
  | moveToSp | shiftA g | push value | pullA | pullP | flag g b | halt | nop => rfl

/-- A branch that is not taken ends with PC past its two bytes (R190). -/
theorem pc_run_branch_not_taken (f : Flag) (want : Bool) (off : Byte) (s : State) (h : getFlag f s.p ≠ want) :
    ((Form.branch f want off).run s).pc = s.pc + BitVec.ofNat 16 (Form.branch f want off).length := by
  rw [Form.run, branchForm_eq, if_neg h]
  exact BitVec.add_assoc s.pc 1 1

/-- The branches test the bit of their mnemonic (R191 to R198): row by row. -/
theorem formOf_of_branchTest (i : Instr) (k : Nat) (want : Bool) (h : branchTest i.mnemonic = some (k, want)) :
    ∃ f off, formOf i = .branch f want off ∧ f.bit = k := by
  cases i <;> cases h <;> exact ⟨_, _, rfl, rfl⟩

end Sys2Proof.Laws
end

section
/-! The statements about addressing and the step (40_addressing_and_step.md): each is settled by the lemmas above. -/

namespace Sys2Proof.Proofs

open Sys2Proof.Machine Sys2Proof.Claims Sys2Proof.Laws

/-- Settles O10, tag by tag. -/
theorem resolverGivesTheEffectiveAddress : Obligations.ResolverGivesTheEffectiveAddress := by
  intro m s
  refine ⟨resolve_effectiveAddress m s, ?_⟩
  rintro rfl
  rfl

/-- Settles O11: the decoded operand is what its format makes of the fetched bytes, and the resolver gives that
operand's effective address. -/
theorem resolvedAddressComesFromTheBytesAtPc : Obligations.ResolvedAddressComesFromTheBytesAtPc := by
  intro s i rest h hi
  have hop : i.operand = operandOf (s.read (s.pc + 1)) (s.read (s.pc + 2)) i.format :=
    operand_eq_operandOf i _ _ _ rest (encode_of_decode _ i rest h)
  rw [← effectiveAddress_operandOf, ← hop]
  exact resolve_effectiveAddress i.operand s hi

/-- Settles O16: what a word push leaves in page 1, and what a word pull reads there. -/
theorem pushedWordIsPulledBack : Obligations.PushedWordIsPulledBack := by
  intro s w
  refine ⟨pull16_push16 s w, push16_sp s w, congrArg Prod.snd (pull16_eq_byteAt s), ?_, fun n => ?_⟩
  · rw [pull16_eq_byteAt, joinBytes_toNat]
    rfl
  · rw [byteAt_push16, apply_ite BitVec.toNat, apply_ite BitVec.toNat, highByte_toNat, lowByte_toNat]

/-- Settles O41: the form of an instruction that writes no PC, and of a branch not taken, ends past its bytes. -/
theorem pcAdvancesPastTheInstruction : Obligations.PcAdvancesPastTheInstruction := by
  intro i s h
  refine ⟨_, exec_eq_form i s, ?_⟩
  rw [pcAfter, ← length_formOf]
  obtain hpc | ⟨k, want, htest, hbit⟩ := h
  · exact pc_run_of_not_writesPc (formOf i) s (operand_ne_noneAddressing i) ((writesPc_eq_form i).symm.trans hpc)
  · obtain ⟨f, off, hform, rfl⟩ := formOf_of_branchTest i k want htest
    rw [hform]
    exact pc_run_branch_not_taken f want off s hbit

/-- Settles O3: each word is the encoding of its instruction, which the decoder reads back. -/
theorem specExampleWordsDecode : Obligations.SpecExampleWordsDecode :=
  have decoded := decodeOfEncodeIsTheInstruction
  ⟨decoded (.ldaImm 0x05) [], decoded (.ldaIzy 0x86) [], decoded (.staAbs 0x0200) [], decoded (.jmpInd 0x30FF) [],
    decoded (.jsr 0x8010) [0x00], decoded .brk []⟩

/-- Settles O6: the engine runs the form of the instruction at PC and then calls the hook. -/
theorem stepRunsTheDecodedInstruction : Obligations.StepRunsTheDecodedInstruction := by
  intro s i rest hrun h
  rw [← fetchBytes_eq] at h
  refine ⟨_, exec_eq_form i s, ?_⟩
  rw [step_running s hrun, engineStep_of_decode s i rest h]
  rfl

/-- Settles O15: `push8` and `pull8` at the address SP gives them in page 1. -/
theorem pushAndPullUseTheStackPage : Obligations.PushAndPullUseTheStackPage := fun s v =>
  ⟨⟨_, push8_eq s v, byteAt_push8 s v⟩, pull8_eq_byteAt s⟩

end Sys2Proof.Proofs
end

section
/-! The loads, stores and transfers by form: the operand byte M, the flags that follow a byte, and the register that a
mnemonic loads or stores (41_load_store_transfer.md R130 to R141). -/

namespace Sys2Proof.Laws

open Sys2Proof.Machine Sys2Proof.Claims

/-- The byte a rule fetches at the effective address is the operand byte M (R94). -/
theorem fetch_eq_operandByte (m : Operand) (s : State) (ea : Word) (hea : ea.toNat = effectiveAddress s m) :
    m.fetch ea s = operandByte s m := by
  have hread : s.read ea = byteAt s (effectiveAddress s m) := by rw [read_eq, hea, byteAt]
  cases m with
  | imm imm8 => rfl
  | _ => exact hread

/-- `SetZN(v)` puts Z and N from `v` and keeps the other bits (R110). -/
theorem flagsAfter_setZN (v p : Byte) : FlagsAfter p (setZN v p) (zn v) := by
  intro k _
  rw [getLsbD_setZN]
  by_cases h1 : k = 1
  · simp [h1, zn]
  · by_cases h7 : k = 7 <;> simp [h1, h7, zn, List.lookup, beq_false_of_ne]

/-- The register a mnemonic loads (R130 to R132). -/
def loadedRegister : Mnemonic → Option Reg
  | .ldaM => some .a
  | .ldxM => some .x
  | .ldyM => some .y
  | _ => none

/-- The register a mnemonic stores (R133 to R135). -/
def storedRegister : Mnemonic → Option Reg
  | .staM => some .a
  | .stxM => some .x
  | .styM => some .y
  | _ => none

/-- The loads of every format: row by row. -/
theorem formOf_of_loadedRegister (i : Instr) (r : Reg) (h : loadedRegister i.mnemonic = some r) :
    formOf i = .load r i.operand := by
  cases i <;> cases h <;> rfl

/-- The stores of every format: row by row. -/
theorem formOf_of_storedRegister (i : Instr) (r : Reg) (h : storedRegister i.mnemonic = some r) :
    formOf i = .store r i.operand := by
  cases i <;> cases h <;> rfl

/-- The address and the length of an instruction whose form resolves its operand, in the words of the claims. -/
theorem resolved_operand (i : Instr) (s : State) (h : (formOf i).operand? = some i.operand) :
    (∃ ea, i.operand.resolve s.pastOpcode = .ok ea ∧ ea.toNat = effectiveAddress s i.operand) ∧
    s.pc + BitVec.ofNat 16 (i.operand.size + 1) = pcAfter s i := by
  obtain ⟨-, hne, hsize⟩ := operand_of_form i i.operand h
  exact ⟨resolve_effectiveAddress i.operand s hne, by rw [hsize, pcAfter]⟩

/-- A load puts M in its register, Z and N from M (R130 to R132). -/
theorem exec_load (i : Instr) (s : State) (r : Reg) (h : loadedRegister i.mnemonic = some r) :
    exec i s = .next { s.setReg r (operandByte s i.operand) with
      p := setZN (operandByte s i.operand) s.p
      pc := pcAfter s i } := by
  have hform := formOf_of_loadedRegister i r h
  obtain ⟨⟨ea, hok, hea⟩, hpc⟩ := resolved_operand i s (by rw [hform, Form.operand?])
  rw [exec_eq_form, hform, Form.run, loadForm_eq s i.operand ea hok, fetch_eq_operandByte i.operand s ea hea, hpc]

/-- A store writes its register at the effective address (R133 to R135). -/
theorem exec_store (i : Instr) (s : State) (r : Reg) (h : storedRegister i.mnemonic = some r) :
    exec i s = .next { s with
      mem := Memory.write s.mem (effectiveAddress s i.operand) (s.reg r)
      pc := pcAfter s i } := by
  have hform := formOf_of_storedRegister i r h
  obtain ⟨⟨ea, hok, hea⟩, hpc⟩ := resolved_operand i s (by rw [hform, Form.operand?])
  rw [exec_eq_form, hform, Form.run, storeForm_eq s i.operand ea hok, hea, hpc]

/-- A transfer copies its source, Z and N from the byte copied (R136 to R140). -/
theorem exec_transfer (i : Instr) (s : State) (source : State → Byte) (r : Reg) (h : formOf i = .transfer source r) :
    exec i s = .next { s.setReg r (source s) with p := setZN (source s) s.p, pc := s.pc + 1 } := by
  rw [exec_eq_form, h, Form.run, transferForm_eq]

end Sys2Proof.Laws
end

section
/-! The statements about loads, stores and transfers (41_load_store_transfer.md): each is settled by the lemmas
above. -/

namespace Sys2Proof.Proofs

open Sys2Proof.Machine Sys2Proof.Claims Sys2Proof.Laws

/-- Settles O17: the mnemonic gives the register, and `exec_load` the state after it. -/
theorem loadsFillTheRegister : Obligations.LoadsFillTheRegister := by
  intro i s
  have hflags := flagsAfter_setZN (operandByte s i.operand) s.p
  refine ⟨fun h => ?_, fun h => ?_, fun h => ?_⟩
  · exact ⟨inOpcodeMap i, _, hflags, exec_load i s .a (by rw [h, loadedRegister])⟩
  · exact ⟨inOpcodeMap i, _, hflags, exec_load i s .x (by rw [h, loadedRegister])⟩
  · exact ⟨inOpcodeMap i, _, hflags, exec_load i s .y (by rw [h, loadedRegister])⟩

/-- Settles O18: the mnemonic gives the register, and a read after the write tells the stored byte from the others. -/
theorem storesWriteTheRegister : Obligations.StoresWriteTheRegister := by
  intro i s v h
  have hreg : ∃ r, storedRegister i.mnemonic = some r ∧ v = s.reg r := by
    obtain ⟨hm, hv⟩ | ⟨hm, hv⟩ | ⟨hm, hv⟩ := h
    · exact ⟨.a, by rw [hm, storedRegister], hv⟩
    · exact ⟨.x, by rw [hm, storedRegister], hv⟩
    · exact ⟨.y, by rw [hm, storedRegister], hv⟩
  obtain ⟨r, hr, rfl⟩ := hreg
  exact ⟨inOpcodeMap i, _, exec_store i s r hr, read_write s.mem (effectiveAddress s i.operand) (s.reg r)⟩

/-- Settles O19: five rows are transfers into a general register; TXS moves X to SP and touches no flag. -/
theorem transfersCopyTheRegister : Obligations.TransfersCopyTheRegister := by
  intro s
  have copied (v : Byte) : FlagsAfter s.p (setZN v s.p) (zn v) := flagsAfter_setZN v s.p
  refine ⟨⟨_, copied s.a, ?_⟩, ⟨_, copied s.a, ?_⟩, ⟨_, copied s.x, ?_⟩, ⟨_, copied s.y, ?_⟩,
    ⟨_, copied s.sp, ?_⟩, ?_, rfl⟩
  · exact exec_transfer .tax s State.a .x rfl
  · exact exec_transfer .tay s State.a .y rfl
  · exact exec_transfer .txa s State.x .a rfl
  · exact exec_transfer .tya s State.y .a rfl
  · exact exec_transfer .tsx s State.sp .x rfl
  · exact exec_eq_form .txs s

end Sys2Proof.Proofs
end

section
/-! The arithmetic, logic, compare and bit test by form, their flag computations bit by bit and as numbers
(42_arithmetic_logic.md R150 to R160). -/

namespace Sys2Proof.Laws

open Sys2Proof.Machine Sys2Proof.Claims

/-! ### The state after each form -/

/-- ADC, SBC, AND, EOR, ORA put the two results of their computation in A and P (R150 to R154). -/
theorem exec_accumulator (i : Instr) (s : State) (f : Byte → Byte → Byte → Byte × Byte)
    (h : formOf i = .accumulator f i.operand) :
    exec i s = .next { s with
      a := (f s.a (operandByte s i.operand) s.p).1
      p := (f s.a (operandByte s i.operand) s.p).2
      pc := pcAfter s i } := by
  obtain ⟨⟨ea, hok, hea⟩, hpc⟩ := resolved_operand i s (by rw [h, Form.operand?])
  rw [exec_eq_form, h, Form.run, accumulatorForm_eq s i.operand ea hok, fetch_eq_operandByte i.operand s ea hea, hpc]

/-- A compare writes P only (R155 to R157). -/
theorem exec_compare (i : Instr) (s : State) (r : Reg) (h : formOf i = .compare r i.operand) :
    exec i s = .next { s with
      p := compareFlags (s.reg r) (operandByte s i.operand) s.p
      pc := pcAfter s i } := by
  obtain ⟨⟨ea, hok, hea⟩, hpc⟩ := resolved_operand i s (by rw [h, Form.operand?])
  rw [exec_eq_form, h, Form.run, compareForm_eq s i.operand ea hok, fetch_eq_operandByte i.operand s ea hea, hpc]

/-- BIT writes P only (R158). -/
theorem exec_bitTest (i : Instr) (s : State) (h : formOf i = .bitTest i.operand) :
    exec i s = .next { s with
      p := bitTestFlags s.a (operandByte s i.operand) s.p
      pc := pcAfter s i } := by
  obtain ⟨⟨ea, hok, hea⟩, hpc⟩ := resolved_operand i s (by rw [h, Form.operand?])
  rw [exec_eq_form, h, Form.run, bitTestForm_eq s i.operand ea hok, fetch_eq_operandByte i.operand s ea hea, hpc]

/-! ### The form of each mnemonic, row by row -/

theorem formOf_of_adc (i : Instr) (h : i.mnemonic = .adcM) : formOf i = .accumulator addWithCarry i.operand := by
  cases i <;> cases h <;> rfl

theorem formOf_of_sbc (i : Instr) (h : i.mnemonic = .sbcM) : formOf i = .accumulator subWithCarry i.operand := by
  cases i <;> cases h <;> rfl

theorem formOf_of_bit (i : Instr) (h : i.mnemonic = .bitM) : formOf i = .bitTest i.operand := by
  cases i <;> cases h <;> rfl

/-- The logic instructions give their result to A, and Z and N from it (R152 to R154). -/
theorem formOf_of_logicResult (i : Instr) (a m r : Byte) (h : logicResult a m i.mnemonic = some r) :
    ∃ f, formOf i = .accumulator f i.operand ∧ ∀ p, f a m p = (r, setZN r p) := by
  cases i <;> cases h <;> exact ⟨_, rfl, fun _ => rfl⟩

/-- The compares read the register of their mnemonic (R155 to R157). -/
theorem formOf_of_comparedRegister (i : Instr) (s : State) (v : Byte)
    (h : comparedRegister s i.mnemonic = some v) : ∃ r, formOf i = .compare r i.operand ∧ s.reg r = v := by
  cases i <;> cases h <;> exact ⟨_, rfl, rfl⟩

/-! ### Bytes as numbers -/

theorem carryIn_eq (s : State) : carryIn s = (getFlag .c s.p).toNat := by
  rw [carryIn, getFlag, Flag.bit]
  cases s.p.getLsbD 0 <;> rfl

theorem carryIn_le_one (s : State) : carryIn s ≤ 1 := by
  rw [carryIn_eq]
  exact Bool.toNat_le _

/-- Bit 7 is the sign bit. -/
theorem getLsbD_seven (v : Byte) : v.getLsbD 7 = decide (128 ≤ v.toNat) :=
  (BitVec.msb_eq_getLsbD_last v).symm.trans (BitVec.msb_eq_decide v)

theorem and_0x80_ne_zero_iff (v : Byte) : v &&& 0x80 ≠ 0 ↔ v.getLsbD 7 = true := by
  have hmask : v &&& 0x80 = if v.getLsbD 7 then 0x80 else 0 := BitVec.and_twoPow v 7
  rw [hmask]
  cases v.getLsbD 7 <;> decide

theorem byte_toInt (v : Byte) : v.toInt = if 128 ≤ v.toNat then (v.toNat : Int) - 256 else v.toNat := by
  rw [BitVec.toInt_eq_toNat_cond]
  split <;> split <;> omega

theorem xor_0xFF_toNat (m : Byte) : (m ^^^ 0xFF).toNat = 255 - m.toNat := by
  have hnot : m ^^^ 0xFF = ~~~m := BitVec.xor_allOnes
  rw [hnot, BitVec.toNat_not]

theorem xor_0xFF_toInt (m : Byte) : (m ^^^ 0xFF).toInt = -1 - m.toInt := by
  have hm := m.isLt
  rw [byte_toInt, byte_toInt, xor_0xFF_toNat]
  split <;> split <;> omega

/-- Two bytes have no bit in common exactly when their AND is zero (R158). -/
theorem and_eq_zero_iff_no_common_bit (a m : Byte) :
    a &&& m = 0 ↔ ∀ k : Fin 8, ¬(a.getLsbD k = true ∧ m.getLsbD k = true) := by
  rw [BitVec.eq_of_getLsbD_eq_iff, Fin.forall_iff]
  simp

/-! ### Flags -/

/-- A flag written before the listed bits, and not again among them, joins the list. -/
theorem flagsAfter_cons_of_putFlag (f : Flag) (b : Bool) (p p' : Byte) (changed : List (Nat × Bool))
    (h : FlagsAfter (putFlag f b p) p' changed) (hf : changed.lookup f.bit = none) :
    FlagsAfter p p' ((f.bit, b) :: changed) := by
  intro k hk
  have hbit := h k hk
  rw [getLsbD_putFlag] at hbit
  by_cases hkf : k = f.bit
  · subst hkf
    simpa [hf] using hbit
  · simpa [List.lookup, beq_false_of_ne hkf, hkf] using hbit

/-- The sign-bit mismatch of R150 says that the signed sum, carry included, does not fit in a byte. -/
theorem sign_mismatch_iff_outOfSignedByte (a m r : Byte) (c : Nat) (hc : c ≤ 1)
    (hr : r.toNat = (a.toNat + m.toNat + c) % 256) :
    decide ((m ^^^ r) &&& (r ^^^ a) &&& 0x80 ≠ 0) = outOfSignedByte (a.toInt + m.toInt + c) := by
  have ha := a.isLt
  have hm := m.isLt
  have hsigns : (m ^^^ r) &&& (r ^^^ a) &&& 0x80 ≠ 0 ↔
      ¬(128 ≤ m.toNat ↔ 128 ≤ r.toNat) ∧ ¬(128 ≤ r.toNat ↔ 128 ≤ a.toNat) := by
    rw [and_0x80_ne_zero_iff, BitVec.getLsbD_and, BitVec.getLsbD_xor, BitVec.getLsbD_xor, getLsbD_seven,
      getLsbD_seven, getLsbD_seven]
    simp
  rw [outOfSignedByte, decide_eq_decide, hsigns, byte_toInt, byte_toInt]
  split <;> split <;> omega

/-! ### Addition and subtraction (R150, R151) -/

section

variable (a m : Byte) (s : State)

theorem addWithCarry_toNat : (addWithCarry a m s.p).1.toNat = (a.toNat + m.toNat + carryIn s) % 256 := by
  rw [carryIn_eq]
  exact BitVec.toNat_ofNat _ 8

theorem flagsAfter_addWithCarry :
    FlagsAfter s.p (addWithCarry a m s.p).2
      ([(0, decide (255 < a.toNat + m.toNat + carryIn s)),
        (6, outOfSignedByte (a.toInt + m.toInt + carryIn s))] ++ zn (addWithCarry a m s.p).1) := by
  rw [← sign_mismatch_iff_outOfSignedByte a m _ _ (carryIn_le_one s) (addWithCarry_toNat a m s), carryIn_eq]
  refine flagsAfter_cons_of_putFlag .c _ _ _ _ ?_ rfl
  exact flagsAfter_cons_of_putFlag .v _ _ _ _ (flagsAfter_setZN _ _) rfl

theorem subWithCarry_toNat :
    ((subWithCarry a m s.p).1.toNat : Int) = ((a.toNat : Int) - m.toNat - (1 - (carryIn s : Int))) % 256 := by
  have hm := m.isLt
  rw [subWithCarry, addWithCarry_toNat, xor_0xFF_toNat]
  omega

theorem flagsAfter_subWithCarry :
    FlagsAfter s.p (subWithCarry a m s.p).2
      ([(0, decide (0 ≤ (a.toNat : Int) - m.toNat - (1 - (carryIn s : Int)))),
        (6, outOfSignedByte (a.toInt - m.toInt - (1 - (carryIn s : Int))))] ++ zn (subWithCarry a m s.p).1) := by
  have hm := m.isLt
  have hcarry : 0 ≤ (a.toNat : Int) - m.toNat - (1 - (carryIn s : Int)) ↔
      255 < a.toNat + (m ^^^ 0xFF).toNat + carryIn s := by
    rw [xor_0xFF_toNat]
    omega
  have hsigned : a.toInt - m.toInt - (1 - (carryIn s : Int)) = a.toInt + (m ^^^ 0xFF).toInt + carryIn s := by
    rw [xor_0xFF_toInt]
    omega
  rw [decide_eq_decide.mpr hcarry, hsigned]
  exact flagsAfter_addWithCarry a (m ^^^ 0xFF) s

end

/-! ### Compare and bit test (R158, R160) -/

theorem flagsAfter_compareFlags (r m p : Byte) :
    FlagsAfter p (compareFlags r m p) [(0, decide (m.toNat ≤ r.toNat)), (1, decide (r = m)),
      (7, decide (128 ≤ (r.toNat + 256 - m.toNat) % 256))] := by
  have hm := m.isLt
  have hwrap : (r - m).toNat = (r.toNat + 256 - m.toNat) % 256 := by bv_omega
  have hzn : zn (r - m) = [(1, decide (r = m)), (7, decide (128 ≤ (r.toNat + 256 - m.toNat) % 256))] := by
    rw [zn, getLsbD_seven, hwrap, decide_eq_decide.mpr sub_eq_zero]
  rw [← hzn]
  exact flagsAfter_cons_of_putFlag .c _ _ _ _ (flagsAfter_setZN _ _) rfl

theorem flagsAfter_bitTestFlags (a m p : Byte) :
    FlagsAfter p (bitTestFlags a m p)
      [(1, decide (∀ k : Fin 8, ¬(a.getLsbD k = true ∧ m.getLsbD k = true))), (7, m.getLsbD 7),
        (6, m.getLsbD 6)] := by
  rw [← decide_eq_decide.mpr (and_eq_zero_iff_no_common_bit a m)]
  refine flagsAfter_cons_of_putFlag .z _ _ _ _ ?_ rfl
  refine flagsAfter_cons_of_putFlag .n _ _ _ _ ?_ rfl
  refine flagsAfter_cons_of_putFlag .v _ _ _ _ ?_ rfl
  exact fun _ _ => rfl

end Sys2Proof.Laws
end

section
/-! The statements about arithmetic, logic, compare and bit test (42_arithmetic_logic.md): each is settled by the
lemmas above. -/

namespace Sys2Proof.Proofs

open Sys2Proof.Machine Sys2Proof.Claims Sys2Proof.Laws

/-- Settles O20: every ADC row runs `addWithCarry`, whose sign-bit test is the signed overflow. -/
theorem adcAddsWithCarry : Obligations.AdcAddsWithCarry := by
  intro i s h m sum
  exact ⟨inOpcodeMap i, _, _, exec_accumulator i s addWithCarry (formOf_of_adc i h), addWithCarry_toNat s.a m s,
    flagsAfter_addWithCarry s.a m s⟩

/-- Settles O21: every SBC row runs `subWithCarry`, the addition of the one's complement. -/
theorem sbcSubtractsWithBorrow : Obligations.SbcSubtractsWithBorrow := by
  intro i s h m borrow diff
  exact ⟨inOpcodeMap i, _, _, exec_accumulator i s subWithCarry (formOf_of_sbc i h), subWithCarry_toNat s.a m s,
    flagsAfter_subWithCarry s.a m s⟩

/-- Settles O22: the mnemonic gives the bitwise operation, which sets Z and N only. -/
theorem logicCombinesTheAccumulator : Obligations.LogicCombinesTheAccumulator := by
  intro i s r h
  obtain ⟨f, hform, hf⟩ := formOf_of_logicResult i s.a (operandByte s i.operand) r h
  have hexec := exec_accumulator i s f hform
  rw [hf] at hexec
  exact ⟨inOpcodeMap i, _, flagsAfter_setZN r s.p, hexec⟩

/-- Settles O23: the mnemonic gives the register, and the wrapped difference is zero exactly on equal bytes. -/
theorem comparesSetCarryZeroNegative : Obligations.ComparesSetCarryZeroNegative := by
  intro i s v h m
  obtain ⟨r, hform, rfl⟩ := formOf_of_comparedRegister i s v h
  exact ⟨inOpcodeMap i, _, exec_compare i s r hform, flagsAfter_compareFlags (s.reg r) m s.p⟩

/-- Settles O24: Z is a bitwise AND read bit by bit, N and V are copied from M. -/
theorem bitTestsMemoryAgainstA : Obligations.BitTestsMemoryAgainstA := by
  intro i s h m
  exact ⟨inOpcodeMap i, _, exec_bitTest i s (formOf_of_bit i h), flagsAfter_bitTestFlags s.a m s.p⟩

end Sys2Proof.Proofs
end

section
/-! The shifts, rotates and increments by form, their results as numbers and their flags (43_shift_incdec.md R170 to
R180). -/

namespace Sys2Proof.Laws

open Sys2Proof.Machine Sys2Proof.Claims

/-! ### The state after each form -/

/-- A shift of the accumulator writes A and P only (R170 to R173). -/
theorem exec_shiftA (i : Instr) (s : State) (f : Byte → Byte → Byte × Byte) (h : formOf i = .shiftA f) :
    exec i s = .next { s with a := (f s.a s.p).1, p := (f s.a s.p).2, pc := s.pc + 1 } := by
  rw [exec_eq_form, h, Form.run, onAccumulator_eq]

/-- No read-modify-write has an Immediate form, so its M is the byte in memory: row by row. -/
theorem operandByte_of_modify (i : Instr) (s : State) (f : Byte → Byte → Byte × Byte)
    (h : formOf i = .modify f i.operand) :
    operandByte s i.operand = byteAt s (effectiveAddress s i.operand) := by
  cases i <;> cases h <;> rfl

/-- A read-modify-write writes the byte at the effective address and P only (R180). -/
theorem exec_modify (i : Instr) (s : State) (f : Byte → Byte → Byte × Byte) (h : formOf i = .modify f i.operand) :
    exec i s = .next { s with
      mem := Memory.write s.mem (effectiveAddress s i.operand) (f (byteAt s (effectiveAddress s i.operand)) s.p).1
      p := (f (byteAt s (effectiveAddress s i.operand)) s.p).2
      pc := pcAfter s i } := by
  obtain ⟨⟨ea, hok, hea⟩, hpc⟩ := resolved_operand i s (by rw [h, Form.operand?])
  rw [exec_eq_form, h, Form.run, readModifyWrite_eq s i.operand ea hok, fetch_eq_operandByte i.operand s ea hea,
    operandByte_of_modify i s f h, hea, hpc]

/-- INX, INY, DEX, DEY write their index register and P only (R176 to R179). -/
theorem exec_index (i : Instr) (s : State) (f : Byte → Byte → Byte × Byte) (r : Reg) (h : formOf i = .index f r) :
    exec i s = .next { s.setReg r (f (s.reg r) s.p).1 with p := (f (s.reg r) s.p).2, pc := s.pc + 1 } := by
  rw [exec_eq_form, h, Form.run, onIndex_eq]

/-! ### The form of each mnemonic, row by row -/

/-- The operation of a shift or rotate mnemonic (R170 to R173). -/
def shiftOperation : Mnemonic → Option (Byte → Byte → Byte × Byte)
  | .aslM => some shiftLeft
  | .lsrM => some shiftRight
  | .rolM => some rotateLeft
  | .rorM => some rotateRight
  | _ => none

/-- A shift works on A in the accumulator format and on memory in every other. -/
theorem formOf_of_shiftOperation (i : Instr) (f : Byte → Byte → Byte × Byte)
    (h : shiftOperation i.mnemonic = some f) :
    formOf i = if i.format = .acc then .shiftA f else .modify f i.operand := by
  cases i <;> cases h <;> rfl

theorem formOf_of_inc (i : Instr) (h : i.mnemonic = .incM) : formOf i = .modify increment i.operand := by
  cases i <;> cases h <;> rfl

theorem formOf_of_dec (i : Instr) (h : i.mnemonic = .decM) : formOf i = .modify decrement i.operand := by
  cases i <;> cases h <;> rfl

/-! ### Results as numbers -/

theorem getLsbD_zero (v : Byte) : v.getLsbD 0 = decide (v.toNat % 2 = 1) :=
  Nat.testBit_zero v.toNat

theorem shiftLeft_toNat (v p : Byte) : (shiftLeft v p).1.toNat = 2 * v.toNat % 256 := by
  rw [shiftLeft, BitVec.toNat_shiftLeft, Nat.shiftLeft_eq, Nat.mul_comm]

theorem shiftRight_toNat (v p : Byte) : (shiftRight v p).1.toNat = v.toNat / 2 :=
  BitVec.toNat_ushiftRight v 1

/-- Bit 0 of the shifted byte is clear, so the old Carry enters by addition (R172). -/
theorem rotateLeft_toNat (v : Byte) (s : State) :
    (rotateLeft v s.p).1.toNat = (2 * v.toNat + carryIn s) % 256 := by
  have hcarry : (if getFlag .c s.p then 0x01 else 0x00 : Byte).toNat = carryIn s := by
    rw [carryIn_eq]
    cases getFlag .c s.p <;> rfl
  have hle := carryIn_le_one s
  have heven : 2 * v.toNat % 256 = 2 ^ 1 * (v.toNat % 128) := by omega
  have hor := Nat.two_pow_add_eq_or_of_lt (i := 1) (b := carryIn s) (by omega) (v.toNat % 128)
  rw [rotateLeft, BitVec.toNat_or, hcarry, BitVec.toNat_shiftLeft, Nat.shiftLeft_eq, Nat.mul_comm, heven, ← hor]
  omega

/-- Bit 7 of the shifted byte is clear, so the old Carry enters by addition (R173). -/
theorem rotateRight_toNat (v : Byte) (s : State) :
    (rotateRight v s.p).1.toNat = v.toNat / 2 + 128 * carryIn s := by
  have hcarry : (if getFlag .c s.p then 0x80 else 0x00 : Byte).toNat = 2 ^ 7 * carryIn s := by
    rw [carryIn_eq]
    cases getFlag .c s.p <;> rfl
  have hv := v.isLt
  have hor := Nat.two_pow_add_eq_or_of_lt (i := 7) (b := v.toNat / 2) (by omega) (carryIn s)
  rw [rotateRight, BitVec.toNat_or, hcarry, BitVec.toNat_ushiftRight, Nat.shiftRight_eq_div_pow, Nat.or_comm, ← hor]
  omega

theorem increment_toNat (v p : Byte) : (increment v p).1.toNat = (v.toNat + 1) % 256 :=
  BitVec.toNat_add v 1

theorem decrement_toNat (v p : Byte) : (decrement v p).1.toNat = (v.toNat + 255) % 256 :=
  sub_one_toNat v

/-! ### Flags -/

/-- Carry is the bit shifted out, Z and N follow the result. -/
theorem flagsAfter_carry_setZN (out : Bool) (w p : Byte) :
    FlagsAfter p (setZN w (putFlag .c out p)) ((0, out) :: zn w) :=
  flagsAfter_cons_of_putFlag .c out p _ _ (flagsAfter_setZN w _) rfl

/-- The operation of a shift mnemonic gives the number and the carry out that R170 to R173 give. -/
theorem shiftOperation_of_shiftResult (m : Mnemonic) (v : Byte) (s : State) (w : Nat) (out : Bool)
    (h : shiftResult v.toNat (carryIn s) m = some (w, out)) :
    ∃ f, shiftOperation m = some f ∧ (f v s.p).1.toNat = w ∧
      FlagsAfter s.p (f v s.p).2 ((0, out) :: zn (f v s.p).1) := by
  cases m <;> cases h
  case aslM =>
    rw [← getLsbD_seven]
    exact ⟨shiftLeft, rfl, shiftLeft_toNat v s.p, flagsAfter_carry_setZN _ _ _⟩
  case lsrM =>
    rw [← getLsbD_zero]
    exact ⟨shiftRight, rfl, shiftRight_toNat v s.p, flagsAfter_carry_setZN _ _ _⟩
  case rolM =>
    rw [← getLsbD_seven]
    exact ⟨rotateLeft, rfl, rotateLeft_toNat v s, flagsAfter_carry_setZN _ _ _⟩
  case rorM =>
    rw [← getLsbD_zero]
    exact ⟨rotateRight, rfl, rotateRight_toNat v s, flagsAfter_carry_setZN _ _ _⟩

end Sys2Proof.Laws
end

section
/-! The statements about shifts, rotates and increments (43_shift_incdec.md): each is settled by the lemmas above. -/

namespace Sys2Proof.Proofs

open Sys2Proof.Machine Sys2Proof.Claims Sys2Proof.Laws

/-- Settles O25: the mnemonic gives the shift, and the accumulator format runs it on A. -/
theorem shiftsOfTheAccumulator : Obligations.ShiftsOfTheAccumulator := by
  intro i s w out hacc h
  obtain ⟨f, hf, hw, hflags⟩ := shiftOperation_of_shiftResult i.mnemonic s.a s w out h
  have hform : formOf i = .shiftA f := by rw [formOf_of_shiftOperation i f hf, if_pos hacc]
  exact ⟨inOpcodeMap i, _, _, exec_shiftA i s f hform, hw, hflags⟩

/-- Settles O26: the mnemonic gives the shift, and a read after the write tells the shifted byte from the others. -/
theorem shiftsOfMemory : Obligations.ShiftsOfMemory := by
  intro i s w out hacc h
  obtain ⟨f, hf, hw, hflags⟩ := shiftOperation_of_shiftResult i.mnemonic _ s w out h
  have hform : formOf i = .modify f i.operand := by rw [formOf_of_shiftOperation i f hf, if_neg hacc]
  exact ⟨inOpcodeMap i, _, _, _, exec_modify i s f hform, hw, hflags, read_write s.mem _ _⟩

/-- Settles O27: every INC row runs `increment` and every DEC row `decrement`, which is plus 255 modulo 256. -/
theorem incAndDecOfMemory : Obligations.IncAndDecOfMemory := by
  intro i s d h
  obtain ⟨hm, rfl⟩ | ⟨hm, rfl⟩ := h
  · exact ⟨inOpcodeMap i, _, _, _, exec_modify i s increment (formOf_of_inc i hm), increment_toNat _ s.p,
      flagsAfter_setZN _ s.p, read_write s.mem _ _⟩
  · exact ⟨inOpcodeMap i, _, _, _, exec_modify i s decrement (formOf_of_dec i hm), decrement_toNat _ s.p,
      flagsAfter_setZN _ s.p, read_write s.mem _ _⟩

/-- Settles O28: each of the four rows runs `increment` or `decrement` on its index register. -/
theorem indexIncrements : Obligations.IndexIncrements := by
  intro s
  refine ⟨?inx, ?iny, ?dex, ?dey, rfl⟩
  case inx =>
    exact ⟨_, _, exec_index .inx s increment .x rfl, increment_toNat s.x s.p, flagsAfter_setZN (s.x + 1) s.p⟩
  case iny =>
    exact ⟨_, _, exec_index .iny s increment .y rfl, increment_toNat s.y s.p, flagsAfter_setZN (s.y + 1) s.p⟩
  case dex =>
    exact ⟨_, _, exec_index .dex s decrement .x rfl, decrement_toNat s.x s.p, flagsAfter_setZN (s.x - 1) s.p⟩
  case dey =>
    exact ⟨_, _, exec_index .dey s decrement .y rfl, decrement_toNat s.y s.p, flagsAfter_setZN (s.y - 1) s.p⟩

end Sys2Proof.Proofs
end

section
/-! The state after each control transfer, the branch target as a number and the status byte that RTI restores
(44_control_flow.md R190 to R203). -/

namespace Sys2Proof.Laws

open Sys2Proof.Machine Sys2Proof.Claims

/-! ### Branches -/

/-- A branch writes PC only (R190). -/
theorem exec_branch (i : Instr) (s : State) (f : Flag) (want : Bool) (off : Byte) (h : formOf i = .branch f want off) :
    exec i s = .next { s with pc := if getFlag f s.p = want then s.pc + 2 + sext16 off else s.pc + 2 } := by
  rw [exec_eq_form, h, Form.run, branchForm_eq, BitVec.add_assoc s.pc 1 1]
  rfl

/-- The byte after a branch's opcode byte is its offset: row by row. -/
theorem encode_tail_of_branch (i : Instr) (f : Flag) (want : Bool) (off : Byte) (h : formOf i = .branch f want off) :
    (encode i).tail = [off] := by
  cases i <;> cases h <;> rfl

/-- Adding a sign-extended offset adds the signed number modulo 65536 (R7, R190). -/
theorem add_sext16_toNat (w : Word) (off : Byte) :
    ((w + sext16 off).toNat : Int) = ((w.toNat : Int) + off.toInt) % 65536 := by
  have hoff := sext16_toInt off
  rw [BitVec.toInt_eq_toNat_cond] at hoff
  rw [BitVec.toNat_add]
  split at hoff <;> omega

/-- PC past a branch's two bytes, as a number. -/
theorem add_two_toNat (w : Word) : (w + 2).toNat = (w.toNat + 2) % 65536 :=
  BitVec.toNat_add w 2

/-- The branch target: the address after the branch plus the signed offset (R190). -/
theorem branch_target_toNat (pc : Word) (off : Byte) :
    ((pc + 2 + sext16 off).toNat : Int) = ((pc.toNat : Int) + 2 + off.toInt) % 65536 := by
  rw [add_sext16_toNat, add_two_toNat]
  omega

/-! ### Jumps, calls and returns -/

theorem exec_jmpAbs (target : Word) (s : State) : exec (.jmpAbs target) s = .next { s with pc := target } := by
  rw [exec_eq_form, formOf, Form.run, jumpAbsolute_eq]

theorem exec_jmpInd (ptr : Word) (s : State) : exec (.jmpInd ptr) s = .next { s with pc := s.readWordInPage ptr } := by
  rw [exec_eq_form, formOf, Form.run, jumpIndirect_eq]

/-- JSR pushes the address of its last byte and goes to its target (R201). -/
theorem exec_jsr (target : Word) (s : State) :
    exec (.jsr target) s = .next { s.push16 (s.pc + 2) with pc := target } := by
  rw [exec_eq_form, formOf, Form.run, callSubroutine_eq, BitVec.add_assoc s.pc 1 1]
  rfl

/-- JSR changes the two bytes pushed, SP and PC only (R107, R201). -/
theorem exec_jsr_frame (target : Word) (s : State) :
    exec (.jsr target) s = .next { s with mem := (s.push16 (s.pc + 2)).mem, sp := s.sp - 2, pc := target } := by
  rw [exec_jsr, ← push16_sp s (s.pc + 2)]
  rfl

/-- RTS goes one past the pulled word (R202). -/
theorem exec_rts (s : State) : exec .rts s = .next { s with sp := s.sp + 2, pc := s.pull16.1 + 1 } := by
  rw [exec_eq_form, formOf, Form.run, returnFromSubroutine_eq, BitVec.add_assoc s.sp 1 1]
  rfl

/-- RTI pulls the status byte and then PC (R203). -/
theorem exec_rti (s : State) :
    exec .rti s = .next { s with p := pulledStatus s.pull8.1, sp := s.sp + 3, pc := s.pull8.2.pull16.1 } := by
  have hsp : s.sp + 1 + 1 + 1 = s.sp + 3 := by bv_omega
  rw [← hsp, exec_eq_form, formOf, Form.run, returnFromInterrupt_eq]
  rfl

/-- The pulled word as a number: its low byte is the one above SP (R108). -/
theorem pull16_toNat (s : State) :
    s.pull16.1.toNat = wordAt s (0x100 + (s.sp.toNat + 1) % 256) (0x100 + (s.sp.toNat + 2) % 256) := by
  rw [pull16_eq_byteAt, joinBytes_toNat]
  rfl

/-- A word pull does not read PC (R108). -/
theorem pull16_with_pc (s : State) (pc : Word) : ({ s with pc := pc } : State).pull16.1 = s.pull16.1 := rfl

/-- The word pulled after a byte stands one byte higher (R106, R108). -/
theorem pull8_pull16_toNat (s : State) :
    s.pull8.2.pull16.1.toNat = wordAt s (0x100 + (s.sp.toNat + 2) % 256) (0x100 + (s.sp.toNat + 3) % 256) := by
  have hsp : ∀ n, ((s.sp + 1).toNat + n) % 256 = (s.sp.toNat + 1 + n) % 256 := fun n => by
    rw [BitVec.toNat_add, Nat.mod_add_mod]
    rfl
  rw [pull16_toNat, pull8_eq_byteAt, hsp, hsp]
  rfl

/-- The status byte a pull makes of a byte: bits 4 and 5 clear, the other six as pulled (R203, R213). -/
theorem getLsbD_pulledStatus (v : Byte) (k : Nat) (hk : k < 8) :
    (pulledStatus v).getLsbD k = (decide (k ≠ 4 ∧ k ≠ 5) && v.getLsbD k) := by
  have hmask : ∀ k < 8, (0xCF : Byte).getLsbD k = decide (k ≠ 4 ∧ k ≠ 5) := by decide
  rw [pulledStatus, BitVec.getLsbD_and, hmask k hk, Bool.and_comm]

end Sys2Proof.Laws
end

section
/-! The statements about control transfer (44_control_flow.md): each is settled by the lemmas above. -/

namespace Sys2Proof.Proofs

open Sys2Proof.Machine Sys2Proof.Claims Sys2Proof.Laws

/-- Settles O29: the mnemonic gives the flag and the encoding the offset; the target is a sum modulo 65536. -/
theorem branchesFollowTheirFlag : Obligations.BranchesFollowTheirFlag := by
  intro i s k want op off htest henc
  obtain ⟨f, off', hform, rfl⟩ := formOf_of_branchTest i k want htest
  obtain rfl : off' = off := by simpa [henc] using (encode_tail_of_branch i f want off' hform).symm
  refine ⟨inOpcodeMap i, _, exec_branch i s f want off' hform, ?_⟩
  by_cases htaken : s.p.getLsbD f.bit = want
  · rw [getFlag, if_pos htaken, if_pos htaken, branch_target_toNat]
  · rw [getFlag, if_neg htaken, if_neg htaken, add_two_toNat]
    rfl

/-- Settles O30: JMP Indirect reads its word inside the pointer's page. -/
theorem jumpsSetPc : Obligations.JumpsSetPc := fun s w =>
  ⟨exec_jmpAbs w s, ⟨_, exec_jmpInd w s, readWordInPage_toNat s w⟩, rfl, rfl⟩

/-- Settles O31: memory after JSR is memory after the word push of PC plus 2. -/
theorem jsrPushesItsLastByteAddress : Obligations.JsrPushesItsLastByteAddress := by
  intro s target
  refine ⟨rfl, _, exec_jsr_frame target s, fun n => ?_⟩
  change (byteAt (s.push16 (s.pc + 2)) n).toNat = _
  rw [byteAt_push16, apply_ite BitVec.toNat, apply_ite BitVec.toNat, highByte_toNat, lowByte_toNat, add_two_toNat]

/-- Settles O32: the word pull as a number, plus one. -/
theorem rtsReturnsPastThePulledWord : Obligations.RtsReturnsPastThePulledWord := by
  intro s
  refine ⟨rfl, _, exec_rts s, ?_⟩
  rw [BitVec.toNat_add, pull16_toNat]
  rfl

/-- Settles O33: the status byte is the first byte pulled, the word after it is PC. -/
theorem rtiRestoresStatusAndPc : Obligations.RtiRestoresStatusAndPc := by
  intro s
  refine ⟨rfl, _, _, exec_rti s, ?status, pull8_pull16_toNat s⟩
  case status =>
    rw [pull8_eq_byteAt]
    exact getLsbD_pulledStatus _

/-- Settles O55: RTS pulls the word JSR pushed, the address of the JSR's last byte, and goes one past it. -/
theorem jsrThenRtsReturns : Obligations.JsrThenRtsReturns := by
  intro s target
  refine ⟨_, _, exec_jsr target s, exec_rts _, ?pc, ?sp⟩
  case pc =>
    calc ({ s.push16 (s.pc + 2) with pc := target } : State).pull16.1 + 1
        = s.pc + 2 + 1 := by rw [pull16_with_pc, pull16_push16]
      _ = s.pc + 3 := BitVec.add_assoc s.pc 2 1
  case sp =>
    change (s.push16 (s.pc + 2)).sp + 2 = s.sp
    rw [push16_sp, BitVec.sub_add_cancel]

end Sys2Proof.Proofs
end

section
/-! The stack and flag instructions by form, and the step by the opcode byte at PC: an illegal byte, BRK, and the
instructions that retire and call the hook (45_stack_flags_system.md R210 to R222, 60_exceptions.md R230, R231,
R246). -/

namespace Sys2Proof.Laws

open Sys2Proof.Machine Sys2Proof.Claims

/-! ### Pushes and pulls -/

/-- PHA and PHP write the byte SP points at, SP and PC (R210, R211). -/
theorem exec_push (i : Instr) (s : State) (value : State → Byte) (h : formOf i = .push value) :
    exec i s = .next { s with mem := (s.push8 (value s)).mem, sp := s.sp - 1, pc := s.pc + 1 } := by
  rw [exec_eq_form, h, Form.run, push8_eq]
  rfl

/-- PLA loads the pulled byte, Z and N from it (R212). -/
theorem exec_pla (s : State) : exec .pla s = .next { s with
    a := s.pull8.1
    p := setZN s.pull8.1 s.p
    sp := s.sp + 1
    pc := s.pc + 1 } := by
  rw [exec_eq_form, formOf, Form.run, pullAccumulator_eq]

/-- PLP makes P of the pulled byte (R213). -/
theorem exec_plp (s : State) :
    exec .plp s = .next { s with p := pulledStatus s.pull8.1, sp := s.sp + 1, pc := s.pc + 1 } := by
  rw [exec_eq_form, formOf, Form.run, pullStatus_eq]

/-- The byte a push left is the one the next pull gives, at every SP (R105, R106). -/
theorem pull8_push8 (s : State) (v : Byte) : (s.push8 v).pull8 = (v, { s with mem := (s.push8 v).mem }) := by
  have hsp : (s.push8 v).sp + 1 = s.sp := BitVec.sub_add_cancel s.sp 1
  have hread : Memory.read (s.push8 v).mem (stackAddr s.sp).toNat = v :=
    (read_write s.mem _ v _).trans (if_pos rfl)
  rw [pull8_eq, hsp, hread]
  rfl

/-- A pull does not read PC (R106). -/
theorem pull8_with_pc (s : State) (pc : Word) : ({ s with pc := pc } : State).pull8.1 = s.pull8.1 := rfl

/-- The two bits PHP sets are the two PLP clears (R211, R213). -/
theorem pulledStatus_pushedStatus (p : Byte) : pulledStatus (pushedStatus p) = pulledStatus p := by
  have hmasks : (0x30 &&& 0xCF : Byte) = 0#8 := by decide
  rw [pulledStatus, pushedStatus, BitVec.and_or_distrib_right, hmasks, BitVec.or_zero, pulledStatus]

/-! ### Flag instructions -/

/-- A flag instruction writes one flag and PC (R214 to R220). -/
theorem exec_flag (i : Instr) (s : State) (f : Flag) (b : Bool) (h : formOf i = .flag f b) :
    exec i s = .next { s with p := putFlag f b s.p, pc := s.pc + 1 } := by
  rw [exec_eq_form, h, Form.run, flagForm_eq]

/-- The flag instructions write the bit of their mnemonic (R214 to R220): row by row. -/
theorem formOf_of_flagWritten (i : Instr) (k : Nat) (b : Bool) (h : flagWritten i.mnemonic = some (k, b)) :
    ∃ f, formOf i = .flag f b ∧ f.bit = k := by
  cases i <;> cases h <;> exact ⟨_, rfl, rfl⟩

theorem flagsAfter_putFlag (f : Flag) (b : Bool) (p : Byte) : FlagsAfter p (putFlag f b p) [(f.bit, b)] :=
  flagsAfter_cons_of_putFlag f b p _ [] (fun _ _ => rfl) rfl

/-! ### The hook after an instruction -/

theorem afterInstruction_of_running (t : State) (h : t.run = .running) : t.afterInstruction = t.callHook :=
  if_pos h

theorem afterInstruction_of_not_running (t : State) (h : t.run ≠ .running) : t.afterInstruction = t :=
  if_neg h

/-- No answer of the hook halts or faults a running engine (R246). -/
theorem run_hookAnswer (s : State) (answer : HookAnswer) (h : s.run = .running) :
    (s.hookAnswer answer).run = .running ∨ (s.hookAnswer answer).run = .idle := by
  cases answer with
  | resume => exact .inl h
  | stop | stopAndReset | powerOn => exact .inr rfl

/-- Neither does the whole hook call: its accesses leave the run state. -/
theorem run_callHook (s : State) (h : s.run = .running) :
    s.callHook.run = .running ∨ s.callHook.run = .idle := by
  rw [State.callHook]
  cases s.hook with
  | nil => exact .inl h
  | cons r rest => exact run_hookAnswer _ r.answer ((hostAccesses_keep r.accesses (s.setHook rest)).1.trans h)

/-! ### The step by the opcode byte at PC -/

/-- A listed byte raises IllegalOpcode (R230, R231). -/
theorem step_of_illegal (s : State) (hrun : s.run = .running) (h : byteAt s s.pc.toNat ∈ illegalBytes) :
    step s = .next { s with
      pc := s.pc + 1
      run := .faulted (.illegalOpcode (byteAt s s.pc.toNat) s.pc) } := by
  have hdecode : decode s.fetchBytes = .error (.illegalOpcode (byteAt s s.pc.toNat)) :=
    decode_cons_of_no_entry _ _ ((entryOf_eq_none_iff _).mpr h)
  rw [step_running s hrun, engineStep_of_decode_error s _ hdecode]
  rfl

/-- Any other byte is the opcode byte of the instruction that the fetch decodes to (R75). -/
theorem exists_decode_of_legal (s : State) (h : byteAt s s.pc.toNat ∉ illegalBytes) :
    ∃ i rest, decode s.fetchBytes = .ok (i, rest) ∧ opcodeOf i = byteAt s s.pc.toNat :=
  (Proofs.exactlyTheListedBytesAreIllegal.2 _ []).2 h _ _

/-- An instruction of one byte that stands at PC is run, and the hook called after it (R90, R93). -/
theorem step_of_one_byte (s : State) (i : Instr) (hrun : s.run = .running) (h : encode i = [byteAt s s.pc.toNat]) :
    step s = .next ((formOf i).run s).afterInstruction := by
  have hfetch : s.fetchBytes = encode i ++ [s.read (s.pc + 1), s.read (s.pc + 2)] := by
    rw [h]
    rfl
  rw [step_running s hrun, engineStep_of_decode s i _ (hfetch ▸ Proofs.decodeOfEncodeIsTheInstruction i _)]

/-- BRK halts, and the hook is not called (R221, R236). -/
theorem step_of_brk (s : State) (hrun : s.run = .running) (h : byteAt s s.pc.toNat = 0x00) :
    step s = .next { s with pc := s.pc + 1, run := .halted } := by
  have hstopped : ((formOf .brk).run s).run ≠ .running := (nofun : RunState.halted ≠ .running)
  rw [step_of_one_byte s .brk hrun (by rw [h]; rfl), afterInstruction_of_not_running _ hstopped]
  rfl

/-- NOP moves PC, and then the hook is called (R222). -/
theorem step_of_nop (s : State) (hrun : s.run = .running) (h : byteAt s s.pc.toNat = 0xEA) :
    step s = .next ({ s with pc := s.pc + 1 } : State).callHook := by
  have hrunning : ((formOf .nop).run s).run = .running := hrun
  rw [step_of_one_byte s .nop hrun (by rw [h]; rfl), afterInstruction_of_running _ hrunning]
  rfl

/-- An instruction other than BRK, with the hook call after it, leaves the engine running or idle, and running under
the identity hook (R246). -/
theorem step_of_decode_ne_brk (s : State) (i : Instr) (rest : List Byte) (hrun : s.run = .running)
    (h : decode s.fetchBytes = .ok (i, rest)) (hi : i ≠ .brk) :
    ∃ t, step s = .next t ∧ (t.run = .running ∨ t.run = .idle) ∧ (s.hook = [] → t.run = .running) := by
  obtain ⟨hkept, -, hhook, -⟩ := formOf_run_keeps i s
  have hrunning : ((formOf i).run s).run = .running := by rw [hkept, if_neg hi, hrun]
  refine ⟨_, (step_running s hrun).trans (engineStep_of_decode s i rest h), ?_, fun hnil => ?_⟩
  · rw [afterInstruction_of_running _ hrunning]
    exact run_callHook _ hrunning
  · rw [afterInstruction_of_hook_nil _ (hhook.trans hnil), hrunning]

end Sys2Proof.Laws
end

section
/-! The statements about the stack and flag instructions, BRK and NOP (45_stack_flags_system.md): each is settled by
the lemmas above. -/

namespace Sys2Proof.Proofs

open Sys2Proof.Machine Sys2Proof.Claims Sys2Proof.Laws

/-- Settles O8: a listed byte faults, 0x00 is BRK, and every other byte is the opcode byte of another instruction. -/
theorem everyOpcodeByteHasADefinedOutcome : Obligations.EveryOpcodeByteHasADefinedOutcome := by
  intro s hrun
  refine ⟨step_of_illegal s hrun, step_of_brk s hrun, fun hlegal hne => ?_⟩
  obtain ⟨i, rest, hdecode, hopcode⟩ := exists_decode_of_legal s hlegal
  have hi : i ≠ .brk := by
    rintro rfl
    exact hne hopcode.symm
  exact step_of_decode_ne_brk s i rest hrun hdecode hi

/-- Settles O34: both rows are pushes, and memory after a push tells the pushed byte from the others. -/
theorem pushesStoreOneByte : Obligations.PushesStoreOneByte := by
  intro i s v h
  have hform : ∃ value, formOf i = .push value ∧ v = value s := by
    obtain ⟨rfl, rfl⟩ | ⟨rfl, rfl⟩ := h
    · exact ⟨State.a, rfl, rfl⟩
    · exact ⟨fun s => pushedStatus s.p, rfl, rfl⟩
  obtain ⟨value, hpush, rfl⟩ := hform
  exact ⟨inOpcodeMap i, _, exec_push i s value hpush, byteAt_push8 s (value s)⟩

/-- Settles O35: the pulled byte is the one above SP in page 1. -/
theorem pullsLoadOneByte : Obligations.PullsLoadOneByte := by
  intro s v
  have hpulled : s.pull8.1 = v := congrArg Prod.fst (pull8_eq_byteAt s)
  refine ⟨⟨_, flagsAfter_setZN v s.p, ?pla⟩, ⟨_, getLsbD_pulledStatus v, ?plp⟩, rfl⟩
  case pla => rw [exec_pla, hpulled]
  case plp => rw [exec_plp, hpulled]

/-- Settles O36: the mnemonic gives the flag, and `putFlag` writes that bit only. -/
theorem flagInstructionsWriteOneBit : Obligations.FlagInstructionsWriteOneBit := by
  intro i s k b h
  obtain ⟨f, hform, rfl⟩ := formOf_of_flagWritten i k b h
  exact ⟨inOpcodeMap i, _, flagsAfter_putFlag f b s.p, exec_flag i s f b hform⟩

/-- Settles O56: PLP pulls the byte PHP pushed, and clears the two bits that PHP set. -/
theorem phpThenPlpRestoresTheFlags : Obligations.PhpThenPlpRestoresTheFlags := by
  intro s
  refine ⟨_, _, exec_push .php s _ rfl, exec_plp _, BitVec.sub_add_cancel s.sp 1, fun k hk => ?flags⟩
  case flags =>
    calc (pulledStatus ({ s.push8 (pushedStatus s.p) with pc := s.pc + 1 } : State).pull8.1).getLsbD k
        = (pulledStatus s.p).getLsbD k := by rw [pull8_with_pc, pull8_push8, pulledStatus_pushedStatus]
      _ = (decide (k ≠ 4 ∧ k ≠ 5) && s.p.getLsbD k) := getLsbD_pulledStatus s.p k hk

/-- Settles O37: `exec` by the forms of the two rows, and the step with the hook call after NOP only. -/
theorem brkHaltsAndNopAdvances : Obligations.BrkHaltsAndNopAdvances := fun s =>
  ⟨exec_eq_form .brk s, step_of_brk s, exec_eq_form .nop s, step_of_nop s, rfl⟩

end Sys2Proof.Proofs
end

section
/-! LOAD byte by byte, and a step whose instruction is followed by one reply of the hook (60_exceptions.md R233, R245,
R246, 70_reset_and_hazards.md R261). -/

namespace Sys2Proof.Laws

open Sys2Proof.Machine Sys2Proof.Claims

/-! ### LOAD -/

/-- Bytes stored one after the other below the top of memory each stand at their own address, and no other byte
changes (R41). -/
theorem byteAt_writeBytes (bytes : List Byte) (s : State) (addr : Word) (n : Nat)
    (hfit : addr.toNat + bytes.length ≤ 65536) :
    byteAt (s.writeBytes addr bytes) n =
      if addr.toNat ≤ n ∧ n < addr.toNat + bytes.length then bytes.getD (n - addr.toNat) 0 else byteAt s n := by
  induction bytes generalizing s addr with
  | nil => exact (if_neg fun ⟨hle, hlt⟩ => Nat.not_lt.mpr hle hlt).symm
  | cons b rest ih =>
    rw [List.length_cons] at hfit ⊢
    -- The next address is 0 only after a byte at 0xFFFF, and that byte is the last.
    have hnext : (addr + 1).toNat = (addr.toNat + 1) % 65536 := by simp
    have hlast : (addr + 1).toNat = addr.toNat + 1 ∨ (addr + 1).toNat = 0 ∧ rest.length = 0 := by omega
    rw [State.writeBytes, ih (s.write addr b) (addr + 1) (by omega), byteAt_write]
    rcases Nat.lt_trichotomy n addr.toNat with hbelow | rfl | habove
    · rw [if_neg (by omega), if_neg (by omega), if_neg (by omega)]
    · rw [if_neg (by omega), if_pos rfl, if_pos (by omega), Nat.sub_self, List.getD_cons_zero]
    · by_cases hin : n < addr.toNat + (rest.length + 1)
      · have hoffset : n - addr.toNat = n - (addr + 1).toNat + 1 := by omega
        rw [if_pos (by omega), if_pos (by omega), hoffset, List.getD_cons_succ]
      · rw [if_neg (by omega), if_neg (by omega), if_neg (by omega)]

/-- An image that fits is copied, then the reset vector is written over it, and the machine is no longer armed
(R261). -/
theorem loadEvent_of_fits (s : State) (image : List Byte) (h : image.length ≤ 0x8000) :
    s.loadEvent image = { s with
      mem := ((s.writeBytes Config.loadBase image).write16 Config.resetVector Config.loadBase).mem
      armed := false
      report := .accepted } := by
  have hfits : ¬ image.length > Config.maxImage := Nat.not_lt.mpr h
  rw [State.loadEvent, if_neg hfits, writeBytes_eq]
  rfl

/-- A longer image is refused whole (R233). -/
theorem loadEvent_of_too_long (s : State) (image : List Byte) (h : 0x8000 < image.length) :
    s.loadEvent image = { s with report := .loadOverflow image.length } :=
  if_pos h

/-- A byte after the two writes of a LOAD: the reset vector wins over the image (R261). -/
theorem byteAt_image_then_vector (s : State) (image : List Byte) (n : Nat) (h : image.length ≤ 0x8000) :
    byteAt ((s.writeBytes Config.loadBase image).write16 Config.resetVector Config.loadBase) n =
      if n = 0xFFFC then 0x00
      else if n = 0xFFFD then 0x80
      else if 0x8000 ≤ n ∧ n < 0x8000 + image.length then image.getD (n - 0x8000) 0
      else byteAt s n := by
  have hbase : Config.loadBase.toNat = 0x8000 := rfl
  rw [byteAt_write16, byteAt_writeBytes image s Config.loadBase n (by omega), hbase]
  rfl

/-! ### A step with one reply of the hook -/

/-- Every instruction but BRK leaves a running engine running, with the hook's replies untouched (R236). -/
theorem exec_keeps_running_and_hook (s t : State) (i : Instr) (hrun : s.run = .running) (hi : i ≠ .brk)
    (h : exec i s = .next t) : t.run = .running ∧ t.hook = s.hook := by
  cases (exec_eq_form i s).symm.trans h
  obtain ⟨hkept, -, hhook, -⟩ := formOf_run_keeps i s
  exact ⟨by rw [hkept, if_neg hi, hrun], hhook⟩

theorem callHook_cons (s : State) (r : HookReply) (replies : List HookReply) (h : s.hook = r :: replies) :
    s.callHook = ((s.setHook replies).hostAccesses r.accesses).hookAnswer r.answer := by
  rw [State.callHook, h]

/-- After a retired instruction the next reply of the hook is used up: its accesses, then its answer (R93, R246). -/
theorem step_of_hook_reply (s t : State) (i : Instr) (rest : List Byte) (r : HookReply) (replies : List HookReply)
    (hrun : s.run = .running) (hhook : s.hook = r :: replies) (hdecode : decode s.fetchBytes = .ok (i, rest))
    (hi : i ≠ .brk) (h : exec i s = .next t) :
    step s = .next (((t.setHook replies).hostAccesses r.accesses).hookAnswer r.answer) := by
  obtain ⟨hrunning, hkept⟩ := exec_keeps_running_and_hook s t i hrun hi h
  cases (exec_eq_form i s).symm.trans h
  rw [step_running s hrun, engineStep_of_decode s i rest hdecode, afterInstruction_of_running _ hrunning,
    callHook_cons _ r replies (hkept.trans hhook)]

end Sys2Proof.Laws
end

section
/-! The statements about LOAD and the hook's answers (60_exceptions.md): each is settled by the lemmas above. -/

namespace Sys2Proof.Proofs

open Sys2Proof.Machine Sys2Proof.Claims Sys2Proof.Laws

/-- Settles O50: the pending LOAD is taken, and the image's length decides between its two outcomes. -/
theorem loadWritesImageThenVector : Obligations.LoadWritesImageThenVector := by
  intro s image rest hrun hp
  rw [step_of_pending s _ rest hrun hp]
  refine ⟨fun hfits => ⟨_, ?_, fun n => byteAt_image_then_vector (s.setPending rest) image n hfits⟩, fun hlong => ?_⟩
  · exact congrArg Host.Outcome.next (loadEvent_of_fits (s.setPending rest) image hfits)
  · exact congrArg Host.Outcome.next (loadEvent_of_too_long (s.setPending rest) image hlong)

/-- Settles O53: the step ends with the hook's answer, and the accesses before it leave the run state. -/
theorem hookAnswersEndOrContinueTheRun : Obligations.HookAnswersEndOrContinueTheRun := by
  intro s t i rest r replies hrun hhook hdecode hi h
  have hrunning := (exec_keeps_running_and_hook s t i hrun hi h).1
  have hstep := step_of_hook_reply s t i rest r replies hrun hhook hdecode hi h
  refine ⟨(hostAccesses_keep r.accesses (t.setHook replies)).1.trans hrunning, ?_⟩
  and_intros <;> (intro hanswer; rw [hstep, hanswer]; rfl)

end Sys2Proof.Proofs
end

section
/-! RESET and the bytes of its vector, and runs of the machine behind the host's interface, one pending event per step
(60_exceptions.md R245, 70_reset_and_hazards.md R261 to R264). -/

namespace Sys2Proof.Laws

open Sys2Proof.Machine Sys2Proof.Claims

/-- P after RESET has I and U set and every other bit clear (R262). -/
theorem getLsbD_resetP : ∀ k, k < 8 → Config.resetP.getLsbD k = decide (k = 2 ∨ k = 5) := by
  decide

/-- RESET takes PC from the two bytes of the vector, the low byte first (R262). -/
theorem resetEvent_pc_toNat (s : State) : s.resetEvent.pc.toNat = wordAt s 0xFFFC 0xFFFD :=
  read16_toNat s Config.resetVector

/-- A LOAD that fits leaves the load base in the reset vector, even where the image reaches over it (R261). -/
theorem wordAt_resetVector_loadEvent (s : State) (image : List Byte) (h : image.length ≤ 0x8000) :
    wordAt (s.loadEvent image) 0xFFFC 0xFFFD = 0x8000 := by
  have hbyte (n : Nat) : byteAt (s.loadEvent image) n = _ :=
    (congrArg (byteAt · n) (loadEvent_of_fits s image h)).trans (byteAt_image_then_vector s image n h)
  rw [wordAt, hbyte, hbyte]
  rfl

/-- RESET after a LOAD that fits starts at the load base (R261, R262). -/
theorem resetEvent_loadEvent_pc (s : State) (image : List Byte) (h : image.length ≤ 0x8000) :
    (s.loadEvent image).resetEvent.pc = 0x8000 :=
  BitVec.eq_of_toNat_eq ((resetEvent_pc_toNat _).trans (wordAt_resetVector_loadEvent s image h))

/-- LOAD, accepted or refused, leaves the run state and the events to come (R233, R261). -/
theorem loadEvent_keeps (s : State) (image : List Byte) :
    (s.loadEvent image).run = s.run ∧ (s.loadEvent image).pending = s.pending := by
  rcases Nat.lt_or_ge 0x8000 image.length with hlong | hfits
  · rw [loadEvent_of_too_long s image hlong]
    exact ⟨rfl, rfl⟩
  · rw [loadEvent_of_fits s image hfits]
    exact ⟨rfl, rfl⟩

/-- Outside RUNNING a run first takes the next pending event. -/
theorem core_run_succ_of_pending (k : Nat) (s : State) (e : HostEvent) (rest : List HostEvent)
    (hrun : s.run ≠ .running) (hp : s.pending = e :: rest) :
    core.run (k + 1) s = core.run k ((s.setPending rest).hostEvent e) := by
  have hstep : core.step s = .next ((s.setPending rest).hostEvent e) := step_of_pending s e rest hrun hp
  simp only [Host.Core.run, hstep]

/-- RESET and then RUN leave the engine RUNNING in the state of the RESET, with the replies as its hook: the RESET arms
the machine (R262, R264). -/
theorem core_run_reset_run (s : State) (replies : List HookReply) (rest : List HostEvent) (hrun : s.run ≠ .running)
    (hp : s.pending = .reset :: .run replies :: rest) :
    core.run 2 s = .next
      { s.resetEvent with run := .running, hook := replies, pending := rest, report := .accepted } := by
  have hidle : RunState.idle ≠ .running := nofun
  rw [core_run_succ_of_pending 1 s .reset _ hrun hp, core_run_succ_of_pending 0 _ (.run replies) rest hidle rfl]
  exact congrArg Host.Outcome.next
    (runEvent_of_armed ((s.resetEvent.setReport .accepted).setPending rest) replies (.inl rfl) rfl)

end Sys2Proof.Laws
end

section
/-! The statements about RESET and the start of a run (70_reset_and_hazards.md): each is settled by the lemmas
above. -/

namespace Sys2Proof.Proofs

open Sys2Proof.Machine Sys2Proof.Claims Sys2Proof.Laws

/-- Settles O47: the pending RESET is taken; all but PC and the bits of P stand in the definition of its effect. -/
theorem resetEventSetsTheResetValues : Obligations.ResetEventSetsTheResetValues := by
  intro s rest hrun hp
  exact ⟨_, step_of_pending s .reset rest hrun hp, rfl, rfl, rfl, rfl, getLsbD_resetP,
    resetEvent_pc_toNat (s.setPending rest), rfl, rfl, rfl, rfl, rfl⟩

/-- Settles O52: LOAD leaves the load base in the reset vector, and RESET and RUN start the engine from there. -/
theorem loadResetRunStartsAtTheLoadBase : Obligations.LoadResetRunStartsAtTheLoadBase := by
  intro s image replies rest hrun hfits hp
  have hload := core_run_succ_of_pending 2 s (.load image) _ hrun hp
  obtain ⟨hkept, hqueued⟩ := loadEvent_keeps (s.setPending (.reset :: .run replies :: rest)) image
  have hstarted := core_run_reset_run _ replies rest (hkept.trans_ne hrun) hqueued
  exact ⟨_, hload.trans hstarted, rfl, resetEvent_loadEvent_pc _ image hfits, rfl, rfl, rfl, rfl, rfl, rfl, rfl⟩

end Sys2Proof.Proofs
end
